-- ==== Sys2Proof/Word.lean ====
section
/-! DEFINITION. The word types of the core: bytes, 16-bit words, 24-bit ARG fields and 28-bit request words (spec 00_scope.md R9, R10). -/

namespace Sys2Proof

/-- `u8` of rule R10. -/
abbrev Byte := BitVec 8

/-- `u16` of rule R10: a command word, a data word, a raw reading. -/
abbrev Half := BitVec 16

/-- The ARG field of a request word, ARG_W = 24 (R9). -/
abbrev Arg := BitVec 24

/-- The host's request word REQ, REQ_W = 28 (R9, R90). -/
abbrev Req := BitVec 28

end Sys2Proof
end

