-- ==== Sys2Proof/Syntax.lean ====
section
/-! DEFINITION. The operations a host can request: one constructor of `Instr` per row of spec/opcode_table.json (spec 30_encoding.md R91, R93, R96), and the written form of rule R104. -/

namespace Sys2Proof

/-- The sixteen OP values by name (R93): eleven operations and the five reserved values of R96. -/
inductive Op where
  | writeCommand
  | readCommand
  | startMeasurement
  | stopMeasurement
  | resetDevice
  | readTemperature
  | crc8
  | encode
  | decode
  | parseFrame
  | convert
  | reservedB
  | reservedC
  | reservedD
  | reservedE
  | reservedF
deriving DecidableEq, Repr

/-- One requested operation with its operands (R91). Bits of ARG that a layout does not name are no part of it (R94). -/
inductive Instr where
  | writeCommand (cmd : Half)
  | readCommand (cmd : Half)
  | startMeasurement (cmd : Half)
  | stopMeasurement
  | resetDevice
  | readTemperature
  | crc8 (b0 b1 : Byte)
  | encode (cmd : Half)
  | decode (b0 b1 : Byte)
  | parseFrame (b0 b1 b2 : Byte)
  | convert (raw : Half)
  | reservedB
  | reservedC
  | reservedD
  | reservedE
  | reservedF
deriving DecidableEq, Repr

/-- Which operation an instruction is. -/
def Instr.op : Instr → Op
  | .writeCommand _     => .writeCommand
  | .readCommand _      => .readCommand
  | .startMeasurement _ => .startMeasurement
  | .stopMeasurement    => .stopMeasurement
  | .resetDevice        => .resetDevice
  | .readTemperature    => .readTemperature
  | .crc8 _ _           => .crc8
  | .encode _           => .encode
  | .decode _ _         => .decode
  | .parseFrame _ _ _   => .parseFrame
  | .convert _          => .convert
  | .reservedB          => .reservedB
  | .reservedC          => .reservedC
  | .reservedD          => .reservedD
  | .reservedE          => .reservedE
  | .reservedF          => .reservedF

/-- An operation as it is written down, `MNEMONIC operand, …` with numerals for operands (R104): not yet checked. -/
structure Line where
  op       : Op
  operands : List Nat
deriving DecidableEq, Repr

/-- An instruction written down. -/
def Instr.toLine : Instr → Line
  | .writeCommand c     => ⟨.writeCommand, [c.toNat]⟩
  | .readCommand c      => ⟨.readCommand, [c.toNat]⟩
  | .startMeasurement c => ⟨.startMeasurement, [c.toNat]⟩
  | .stopMeasurement    => ⟨.stopMeasurement, []⟩
  | .resetDevice        => ⟨.resetDevice, []⟩
  | .readTemperature    => ⟨.readTemperature, []⟩
  | .crc8 b0 b1         => ⟨.crc8, [b0.toNat, b1.toNat]⟩
  | .encode c           => ⟨.encode, [c.toNat]⟩
  | .decode b0 b1       => ⟨.decode, [b0.toNat, b1.toNat]⟩
  | .parseFrame a b k   => ⟨.parseFrame, [a.toNat, b.toNat, k.toNat]⟩
  | .convert r          => ⟨.convert, [r.toNat]⟩
  | .reservedB          => ⟨.reservedB, []⟩
  | .reservedC          => ⟨.reservedC, []⟩
  | .reservedD          => ⟨.reservedD, []⟩
  | .reservedE          => ⟨.reservedE, []⟩
  | .reservedF          => ⟨.reservedF, []⟩

end Sys2Proof
end

