-- ==== Sys2Proof/WellFormed.lean ====
section
/-! DEFINITION. Which written operations are well formed: the right number of operands, each within its field (spec 30_encoding.md R91, R104), and a request word within its 28 bits (R90, R103). -/

namespace Sys2Proof

/-- The widths of an operation's operands, in the order of R104 (the layouts A_CMD, A_B2, A_FRAME, A_RAW and A_NONE of R91). -/
def Op.operandWidths : Op → List Nat
  | .writeCommand | .readCommand | .startMeasurement | .encode => [16]
  | .crc8 | .decode => [8, 8]
  | .parseFrame => [8, 8, 8]
  | .convert => [16]
  | .stopMeasurement | .resetDevice | .readTemperature => []
  | .reservedB | .reservedC | .reservedD | .reservedE | .reservedF => []

/-- The number of operands is the layout's (R91). -/
def Line.countOk (l : Line) : Bool := l.operands.length == l.op.operandWidths.length

/-- Every operand fits its field (R91). -/
def Line.widthsOk (l : Line) : Bool := (l.operands.zip l.op.operandWidths).all fun (v, w) => decide (v < 2 ^ w)

/-- A written operation is well formed. -/
def Line.wellFormed (l : Line) : Bool := l.countOk && l.widthsOk

/-- An instruction is well formed. Its operands have their fields' widths by type, so this holds of every one. -/
def Instr.wellFormed (i : Instr) : Bool := i.toLine.wellFormed

/-- A number is a request word: "REQ is always 28 bits" (R90, R103). -/
def reqWordOk (w : Nat) : Bool := decide (w < 2 ^ 28)

/-- The instruction a well-formed line stands for; `none` for an ill-formed one. -/
def Line.toInstr? (l : Line) : Option Instr :=
  if l.wellFormed then
    match l.op, l.operands with
    | .writeCommand, [c]     => some (.writeCommand (.ofNat 16 c))
    | .readCommand, [c]      => some (.readCommand (.ofNat 16 c))
    | .startMeasurement, [c] => some (.startMeasurement (.ofNat 16 c))
    | .stopMeasurement, []   => some .stopMeasurement
    | .resetDevice, []       => some .resetDevice
    | .readTemperature, []   => some .readTemperature
    | .crc8, [a, b]          => some (.crc8 (.ofNat 8 a) (.ofNat 8 b))
    | .encode, [c]           => some (.encode (.ofNat 16 c))
    | .decode, [a, b]        => some (.decode (.ofNat 8 a) (.ofNat 8 b))
    | .parseFrame, [a, b, k] => some (.parseFrame (.ofNat 8 a) (.ofNat 8 b) (.ofNat 8 k))
    | .convert, [r]          => some (.convert (.ofNat 16 r))
    | .reservedB, []         => some .reservedB
    | .reservedC, []         => some .reservedC
    | .reservedD, []         => some .reservedD
    | .reservedE, []         => some .reservedE
    | .reservedF, []         => some .reservedF
    | _, _                   => none
  else none

end Sys2Proof
end

