-- ==== Sys2Proof/Decode.lean ====
section
/-! DEFINITION. The request word: fields (spec 30_encoding.md R90, R91), the opcode map with its masks (R93, R96), decoding and encoding. -/

namespace Sys2Proof

/-! ### Fields of a request word -/

/-- OP = REQ[27:24] (R90). -/
def opField (w : Req) : BitVec 4 := w.extractLsb' 24 4

/-- ARG = REQ[23:0] (R90). -/
def argField (w : Req) : Arg := w.extractLsb' 0 24

/-- `cmd` of A_CMD and `raw` of A_RAW: ARG[15:0] (R91). -/
def argHalf (a : Arg) : Half := a.extractLsb' 0 16

/-- ARG[23:16]: `b0` of A_FRAME (R91). -/
def argHigh (a : Arg) : Byte := a.extractLsb' 16 8

/-- ARG[15:8]: `b0` of A_B2, `b1` of A_FRAME (R91). -/
def argMid (a : Arg) : Byte := a.extractLsb' 8 8

/-- ARG[7:0]: `b1` of A_B2, `b2` of A_FRAME (R91). -/
def argLow (a : Arg) : Byte := a.extractLsb' 0 8

/-! ### Decoding -/

/-- The operation an OP value selects, bit 3 first; all sixteen values are named (R93). -/
def opOfCode (c : BitVec 4) : Op :=
  match c.getLsbD 3, c.getLsbD 2, c.getLsbD 1, c.getLsbD 0 with
  | false, false, false, false => .writeCommand
  | false, false, false, true  => .readCommand
  | false, false, true,  false => .startMeasurement
  | false, false, true,  true  => .stopMeasurement
  | false, true,  false, false => .resetDevice
  | false, true,  false, true  => .readTemperature
  | false, true,  true,  false => .crc8
  | false, true,  true,  true  => .encode
  | true,  false, false, false => .decode
  | true,  false, false, true  => .parseFrame
  | true,  false, true,  false => .convert
  | true,  false, true,  true  => .reservedB
  | true,  true,  false, false => .reservedC
  | true,  true,  false, true  => .reservedD
  | true,  true,  true,  false => .reservedE
  | true,  true,  true,  true  => .reservedF

/-- An operation with its operands taken from ARG by its layout (R91); the other bits of ARG are ignored (R94). -/
def withArg (o : Op) (a : Arg) : Instr :=
  match o with
  | .writeCommand     => .writeCommand (argHalf a)
  | .readCommand      => .readCommand (argHalf a)
  | .startMeasurement => .startMeasurement (argHalf a)
  | .stopMeasurement  => .stopMeasurement
  | .resetDevice      => .resetDevice
  | .readTemperature  => .readTemperature
  | .crc8             => .crc8 (argMid a) (argLow a)
  | .encode           => .encode (argHalf a)
  | .decode           => .decode (argMid a) (argLow a)
  | .parseFrame       => .parseFrame (argHigh a) (argMid a) (argLow a)
  | .convert          => .convert (argHalf a)
  | .reservedB        => .reservedB
  | .reservedC        => .reservedC
  | .reservedD        => .reservedD
  | .reservedE        => .reservedE
  | .reservedF        => .reservedF

/-- The instruction a request word stands for: "A decoder takes OP = REQ[27:24] and dispatches on its 16 values; no other bit takes
part in selecting the operation" (R93). Total: every 28-bit word has a meaning. -/
def decode (w : Req) : Instr := withArg (opOfCode (opField w)) (argField w)

/-- Why a number is no request word. -/
inductive DecodeError where
  /-- The number needs more than REQ's 28 bits (R90, R103). -/
  | wordTooWide
deriving DecidableEq, Repr

/-- Decoding a number of any size, refusing by name what is no request word. -/
def decodeWord (w : Nat) : Except DecodeError Instr :=
  if reqWordOk w then .ok (decode (BitVec.ofNat 28 w)) else .error .wordTooWide

/-- The instruction read from a word numbered as the opcode table numbers it. REQ is one word of 28 bits, so the table's numbering
is the word's own; `_nbits` (28 rounded up to whole bytes) adds nothing (DESIGN CHOICE, log entry 10). -/
def decodeTableWord (_nbits w : Nat) : Option Instr :=
  match decodeWord w with
  | .ok i    => some i
  | .error _ => none

/-! ### Encoding -/

/-- The OP value of an operation (R93, R96). -/
def Op.code : Op → BitVec 4
  | .writeCommand     => 0x0#4
  | .readCommand      => 0x1#4
  | .startMeasurement => 0x2#4
  | .stopMeasurement  => 0x3#4
  | .resetDevice      => 0x4#4
  | .readTemperature  => 0x5#4
  | .crc8             => 0x6#4
  | .encode           => 0x7#4
  | .decode           => 0x8#4
  | .parseFrame       => 0x9#4
  | .convert          => 0xA#4
  | .reservedB        => 0xB#4
  | .reservedC        => 0xC#4
  | .reservedD        => 0xD#4
  | .reservedE        => 0xE#4
  | .reservedF        => 0xF#4

/-- The ARG field of an instruction, ignored bits zero (R91). -/
def encodeArg : Instr → Arg
  | .writeCommand c     => 0#8 ++ c
  | .readCommand c      => 0#8 ++ c
  | .startMeasurement c => 0#8 ++ c
  | .stopMeasurement    => 0#24
  | .resetDevice        => 0#24
  | .readTemperature    => 0#24
  | .crc8 b0 b1         => 0#8 ++ (b0 ++ b1)
  | .encode c           => 0#8 ++ c
  | .decode b0 b1       => 0#8 ++ (b0 ++ b1)
  | .parseFrame a b k   => a ++ (b ++ k)
  | .convert r          => 0#8 ++ r
  | .reservedB          => 0#24
  | .reservedC          => 0#24
  | .reservedD          => 0#24
  | .reservedE          => 0#24
  | .reservedF          => 0#24

/-- The request word `{OP, ARG}` of an instruction (R90). -/
def encode (i : Instr) : Req := i.op.code ++ encodeArg i

/-! ### The opcode map as a table -/

/-- One row of R93: a word belongs to the row exactly when `word & mask = pattern`. -/
structure OpRow where
  op      : Op
  pattern : Req
  mask    : Req
deriving DecidableEq, Repr

/-- The opcode map of R93 and R96, row by row as spec/opcode_table.json has it. -/
def opRows : List OpRow :=
  [ ⟨.writeCommand,     0x0000000#28, 0xF000000#28⟩,
    ⟨.readCommand,      0x1000000#28, 0xF000000#28⟩,
    ⟨.startMeasurement, 0x2000000#28, 0xF000000#28⟩,
    ⟨.stopMeasurement,  0x3000000#28, 0xF000000#28⟩,
    ⟨.resetDevice,      0x4000000#28, 0xF000000#28⟩,
    ⟨.readTemperature,  0x5000000#28, 0xF000000#28⟩,
    ⟨.crc8,             0x6000000#28, 0xF000000#28⟩,
    ⟨.encode,           0x7000000#28, 0xF000000#28⟩,
    ⟨.decode,           0x8000000#28, 0xF000000#28⟩,
    ⟨.parseFrame,       0x9000000#28, 0xF000000#28⟩,
    ⟨.convert,          0xA000000#28, 0xF000000#28⟩,
    ⟨.reservedB,        0xB000000#28, 0xF000000#28⟩,
    ⟨.reservedC,        0xC000000#28, 0xF000000#28⟩,
    ⟨.reservedD,        0xD000000#28, 0xF000000#28⟩,
    ⟨.reservedE,        0xE000000#28, 0xF000000#28⟩,
    ⟨.reservedF,        0xF000000#28, 0xF000000#28⟩ ]

/-- The bits of REQ that an operation's layout names, OP among them (R91); R94 ignores the others. -/
def Op.usedBits : Op → Req
  | .writeCommand | .readCommand | .startMeasurement | .encode => 0xF00FFFF#28
  | .crc8 | .decode => 0xF00FFFF#28
  | .convert => 0xF00FFFF#28
  | .parseFrame => 0xFFFFFFF#28
  | .stopMeasurement | .resetDevice | .readTemperature => 0xF000000#28
  | .reservedB | .reservedC | .reservedD | .reservedE | .reservedF => 0xF000000#28

end Sys2Proof
end

