-- ==== Sys2Proof/Config.lean ====
section
/-! DEFINITION. What is fixed for a whole run: the constants of spec 00_scope.md R7, the parameters of R8 (open: no value is given here), and the free values of R24 and R210 (opaque: no value can be proved of them). -/

namespace Sys2Proof

/-! ### The constants of rule R7 -/

/-- CRC_POLY, the generator polynomial's low 8 bits (R7). -/
def crcPoly : Byte := 0x31#8
/-- CRC_INIT, the CRC register before the first byte (R7). -/
def crcInit : Byte := 0xFF#8
/-- FRAME_LEN, the bytes of a response frame (R7). -/
def frameLen : Nat := 3
/-- T_SETTLE, in time-units (R7). -/
def tSettle : Nat := 20
/-- T_BREAK, in time-units (R7). -/
def tBreak : Nat := 1
/-- T_RST_LOW, in time-units (R7). -/
def tRstLow : Nat := 1
/-- T_RST_RECOVER, in time-units (R7). -/
def tRstRecover : Nat := 100
/-- TEMP_MIN, the temperature at raw = 0, in degrees (R7). -/
def tempMin : Int := -45
/-- TEMP_SPAN = 130 − (−45), the slope's numerator (R7). -/
def tempSpan : Nat := 175
/-- RAW_MAX, the slope's denominator (R7). -/
def rawMax : Nat := 65535
/-- TEMP_FRAC_BITS, written F, the fraction bits of TEMP_OUT (R9). -/
def tempFracBits : Nat := 16

/-! ### The parameters of rule R8 -/

/-- The two families of start commands (R8, R100). -/
inductive MeasMode where
  | periodic
  | singleShot
deriving DecidableEq, Repr, Inhabited

/-- The repeatability a start command selects (00_scope.md R12). -/
inductive Repeatability where
  | high
  | medium
  | low
deriving DecidableEq, Repr, Inhabited

/-- One member of CMD_START[mode, rate, repeatability] (R8, R100). The spec lists neither the members nor the rates, so `rate` is
only a label, absent for a single-shot command (DESIGN CHOICE, log entry 14). -/
structure StartCommand where
  mode          : MeasMode
  rate          : Option Nat
  repeatability : Repeatability
  word          : Half
deriving DecidableEq, Repr, Inhabited

/-- The parameters of rule R8, none of which the spec gives a value. They are no registers (R20): no step changes them. -/
structure Params where
  /-- CMD_START_DEFAULT, sent by READ_TEMPERATURE. -/
  cmdStartDefault  : Half
  /-- CMD_FETCH_DATA, sent by READ_TEMPERATURE and read by the MEAS rule of READ_COMMAND. -/
  cmdFetchData     : Half
  /-- CMD_BREAK, sent by STOP_MEASUREMENT. -/
  cmdBreak         : Half
  /-- The commands the core never uses itself; the host passes them in ARG (R100). -/
  cmdSoftReset     : Half
  cmdReadStatus    : Half
  cmdClearStatus   : Half
  cmdReadSerial    : Half
  cmdHeaterEnable  : Half
  cmdHeaterDisable : Half
  /-- The members of CMD_START[mode, rate, repeatability]. -/
  startCommands    : List StartCommand
  /-- Bits 6 to 1 of DEV_ADDR_BASE; its bit 0 is 0 (R70; DEDUCED, log entry 1). -/
  devAddrHigh      : BitVec 6
  /-- RESET_PIN, the opaque `pin_id` of `set_pin`. -/
  resetPin         : Nat
  /-- TIME_UNIT, the length of one time-unit in some unit of the platform's; no rule reads it (R66; log entry 12). -/
  timeUnit         : Nat
deriving DecidableEq, Repr, Inhabited

/-- DEV_ADDR_BASE, 7 bits with bit 0 equal to 0 (R8, R70). -/
def Params.devAddrBase (p : Params) : BitVec 7 := p.devAddrHigh ++ 0#1

/-- The parameters of the machine that `State.reset` describes: open, so nothing can be proved of their values (R8: "None may be
given a default silently"; log entry 1). -/
opaque Config.params : Params

/-- The level of the strap ADDR_SEL when the reset behind `State.reset` was applied (R21, R36): open (log entry 6). -/
opaque Config.addrSel : BitVec 1

/-! ### Free values: what a register holds where the spec says "unspecified" (R24, R210; log entry 2) -/

/-- Free bytes, one for each draw number. -/
opaque Config.freeByte : Nat → Byte
/-- Free 16-bit words, one for each draw number. -/
opaque Config.freeHalf : Nat → Half
/-- Free 32-bit words, one for each draw number. -/
opaque Config.freeWord : Nat → BitVec 32

end Sys2Proof
end

