-- ==== Sys2Proof/Machine/CrcUnit.lean ====
section
/-! DEFINITION. The checksum engine's pure functions (spec 40_checksum.md R120, R121; 41_codec_parser.md R136). -/

namespace Sys2Proof.Machine

/-- One bit-step: the top bit is tested, the 8-bit register shifted left, and CRC_POLY XORed in if the bit was set (R120, R121). -/
def bitstep (r : Byte) : Byte := if r.msb then (r <<< 1) ^^^ crcPoly else r <<< 1

/-- XOR the byte in, then eight bit-steps (R120). -/
def bytestep (r b : Byte) : Byte :=
  bitstep (bitstep (bitstep (bitstep (bitstep (bitstep (bitstep (bitstep (r ^^^ b))))))))

/-- The checksum of two bytes, `b0` first (R120). -/
def crc8 (b0 b1 : Byte) : Byte := bytestep (bytestep crcInit b0) b1

/-- `verify` of R136: "an exact equality of all 8 bits". -/
def verify (b0 b1 b2 : Byte) : Bool := crc8 b0 b1 == b2

end Sys2Proof.Machine
end

