-- ==== Sys2Proof/Machine/State.lean ====
section
/-! DEFINITION. The state of the core: every register of spec 10_state.md R21, the parameters of R8, and the model's own fields for the interface of R11 (input events, trace, draw counter); and the state after reset. -/

namespace Sys2Proof.Machine

/-- SEQ, the sequencer register (R28): the analogue of a program counter. Values 14 and 15 are never written and left out (U8;
DESIGN CHOICE, log entry 8). -/
inductive Seq where
  | idle
  | wcTx
  | rcTx
  | rcRx
  | smTx
  | smDly
  | spTx
  | spDly
  | rsDly1
  | rsDly2
  | rtTx1
  | rtDly
  | rtTx2
  | rtRx
deriving DecidableEq, Repr

/-- STATUS, the result kind of the last completed operation (R31). -/
inductive Status where
  | ok
  | transportError
  | checksumMismatch
  | illegalOp
deriving DecidableEq, Repr

/-- STAGE, which stage of READ_TEMPERATURE failed (R32). -/
inductive Stage where
  | none
  | start
  | fetch
deriving DecidableEq, Repr

/-- CMD16, the two wire bytes of a command, `b0` sent first (R23, R97). -/
structure CmdBytes where
  b0 : Byte
  b1 : Byte
deriving DecidableEq, Repr

/-- FRAME24, a response frame: data most-significant byte, data least-significant byte, checksum byte (R24, R98). -/
structure Frame where
  b0 : Byte
  b1 : Byte
  b2 : Byte
deriving DecidableEq, Repr

/-- The adapter's answer to a `Transmit` (R61, R63). -/
inductive TxAnswer where
  | ok
  | fail
deriving DecidableEq, Repr

/-- The adapter's answer to a `Receive`: exactly three bytes, or the one value `fail` (R62, R63). -/
inductive RxAnswer where
  | ok (f : Frame)
  | fail
deriving DecidableEq, Repr

/-- The level of the reset pin (R65). -/
inductive PinLevel where
  | low
  | high
deriving DecidableEq, Repr

/-- What the outside does to the core in one step (R11, R35): the host offers a request word with REQ_VALID = 1, the environment
answers, or `rst` is applied while the strap ADDR_SEL has the given level (DESIGN CHOICE, log entry 6). -/
inductive InputEvent where
  | offer (req : Req)
  | txResp (r : TxAnswer)
  | rxResp (r : RxAnswer)
  | delayDone
  | rst (strap : BitVec 1)
deriving DecidableEq, Repr

/-- The events of the trace (R79): the input events that had a step, and the output events. `req` is an ACCEPTED request. -/
inductive Event where
  | req (op : BitVec 4) (arg : Arg)
  | transmit (addr : Byte) (bytes : CmdBytes)
  | txResp (r : TxAnswer)
  | receive (addr : Byte) (len : Nat)
  | rxResp (r : RxAnswer)
  | setPin (pin : Nat) (level : PinLevel)
  | delay (units : Nat)
  | delayDone
  | done (status : Status) (stage : Stage)
  | rst (strap : BitVec 1)
deriving DecidableEq, Repr

/-- The state. The first twelve fields are the registers of R21; `params` is R8's parameters, which no step changes; `inputs`,
`trace` and `draws` are the model's own. -/
structure State where
  /-- SEQ, u4 (R28). -/
  seq      : Seq
  /-- CMD_REG, u16. -/
  cmdReg   : Half
  /-- TXBUF[0..1] (R23). -/
  txBuf    : CmdBytes
  /-- RXBUF[0..2] (R24). -/
  rxBuf    : Frame
  /-- CRC_REG, u8 (R25). -/
  crcReg   : Byte
  /-- DATA_OUT, u16 (R26). -/
  dataOut  : Half
  /-- TEMP_OUT, s32 with 16 fraction bits (R27). -/
  tempOut  : BitVec 32
  /-- STATUS, u3 (R31). -/
  status   : Status
  /-- STAGE, u2 (R32). -/
  stage    : Stage
  /-- ERR_LATCH, u1 (R33). -/
  errLatch : Bool
  /-- MEAS, u1: false is Idle, true is Measuring (R34). -/
  meas     : Bool
  /-- ADDR_SEL_Q, u1 (R36). -/
  addrSelQ : BitVec 1
  /-- The parameters of R8 (DESIGN CHOICE: in the state, log entry 1). -/
  params   : Params
  /-- The input events still to come, next first (R11; DESIGN CHOICE, log entry 5). -/
  inputs   : List InputEvent
  /-- The trace, oldest event first (R79; DESIGN CHOICE, log entry 7). -/
  trace    : List Event
  /-- How many free values have been drawn (R24, R210; DESIGN CHOICE, log entry 2). -/
  draws    : Nat
deriving DecidableEq, Repr

/-- What the core answers to an event that its rules give no step (R68, U11; DESIGN CHOICE, log entry 4). -/
inductive Fault where
  /-- A `TxResp` came while SEQ waits for something else: the environment broke its duty (R68, D24); raised by `onTxResp`.
  Safe: the spec has no run in which it happens. -/
  | unsolicitedTxResp (seq : Seq)
  /-- An `RxResp` came while SEQ waits for something else (R68, D24); raised by `onRxResp`. Safe, as above. -/
  | unsolicitedRxResp (seq : Seq)
  /-- A `DelayDone` came while SEQ waits for something else (R68, D24); raised by `onDelayDone`. Safe, as above. -/
  | unsolicitedDelayDone (seq : Seq)
deriving DecidableEq, Repr

/-- Refusals of the model. -/
inductive Refusal where
  /-- An instruction without a meaning; no arm of `exec` answers it. Safe. -/
  | notModelled (mnemonic : String)
deriving DecidableEq, Repr

/-- The state right after `rst` (R21, R210): IDLE, OK, NONE, the two flags clear, ADDR_SEL_Q the strap; the data registers
"any", each a free draw. Six draw numbers are used up (DESIGN CHOICE, log entry 2). No input is there yet and the
trace is empty (R224). -/
def State.reset : State where
  seq      := .idle
  cmdReg   := Config.freeHalf 0
  txBuf    := ⟨Config.freeByte 0, Config.freeByte 1⟩
  rxBuf    := ⟨Config.freeByte 2, Config.freeByte 3, Config.freeByte 4⟩
  crcReg   := Config.freeByte 5
  dataOut  := Config.freeHalf 1
  tempOut  := Config.freeWord 0
  status   := .ok
  stage    := .none
  errLatch := false
  meas     := false
  addrSelQ := Config.addrSel
  params   := Config.params
  inputs   := []
  trace    := []
  draws    := 6

/-- The answer of a step. -/
abbrev Result := Host.Outcome State Fault Refusal

end Sys2Proof.Machine
end

