-- ==== Sys2Proof/Machine/Operands.lean ====
section
/-! DEFINITION. What the core computes from operands and from the address strap: the command codec (spec 41_codec_parser.md R130, R131) and the bus address (20_memory.md R70). The ARG layouts of R91 are in Decode.lean. -/

namespace Sys2Proof.Machine

/-- `encode(cmd) = [cmd[15:8], cmd[7:0]]`, the first byte sent first (R130, R97). -/
def encodeCmd (cmd : Half) : CmdBytes := ⟨cmd.extractLsb' 8 8, cmd.extractLsb' 0 8⟩

/-- `decode(b0, b1) = {b0, b1}` (R131, R98). -/
def decodeData (b0 b1 : Byte) : Half := b0 ++ b1

/-- DEV_ADDR = DEV_ADDR_BASE | ADDR_SEL_Q, 7 bits (R30, R70). -/
def devAddr (s : State) : BitVec 7 := s.params.devAddrBase ||| s.addrSelQ.setWidth 7

/-- `zext_8(DEV_ADDR)`, the address carried in the events (R70). -/
def busAddr (s : State) : Byte := (devAddr s).setWidth 8

end Sys2Proof.Machine
end

