-- ==== Sys2Proof/Machine/Flags.lean ====
section
/-! DEFINITION. Flags and codes: the derived outputs of spec 10_state.md R30 and the numeric codes of R28, R31 and R32. How an operation writes STATUS, STAGE, ERR_LATCH and MEAS is in Ops.lean and Sequencer.lean. -/

namespace Sys2Proof.Machine

/-- READY = (SEQ == IDLE) (R30). -/
def ready (s : State) : Bool := decide (s.seq = .idle)

/-- BUSY = (SEQ != IDLE) (R30). -/
def busy (s : State) : Bool := decide (s.seq ≠ .idle)

/-- CRC_OK = (CRC_REG == RXBUF[2]) (R30). -/
def crcOk (s : State) : Bool := s.crcReg == s.rxBuf.b2

/-- The u4 code of a sequencer state (R28). -/
def seqCode : Seq → BitVec 4
  | .idle   => 0#4
  | .wcTx   => 1#4
  | .rcTx   => 2#4
  | .rcRx   => 3#4
  | .smTx   => 4#4
  | .smDly  => 5#4
  | .spTx   => 6#4
  | .spDly  => 7#4
  | .rsDly1 => 8#4
  | .rsDly2 => 9#4
  | .rtTx1  => 10#4
  | .rtDly  => 11#4
  | .rtTx2  => 12#4
  | .rtRx   => 13#4

/-- The u3 code of a STATUS value (R31). -/
def statusCode : Status → BitVec 3
  | .ok               => 0#3
  | .transportError   => 1#3
  | .checksumMismatch => 2#3
  | .illegalOp        => 3#3

/-- The u2 code of a STAGE value (R32). -/
def stageCode : Stage → BitVec 2
  | .none  => 0#2
  | .start => 1#2
  | .fetch => 2#2

end Sys2Proof.Machine
end

