-- ==== Sys2Proof/Machine/Scaler.lean ====
section
/-! DEFINITION. The temperature converter's pure functions (spec 43_converter.md R170, R171). -/

namespace Sys2Proof.Machine

/-- T(raw), the exact temperature in degrees (R171). -/
def exactTemp (raw : Half) : ℚ := tempMin + tempSpan * raw.toNat / rawMax

/-- `scale` as an integer: the floor division first, the subtraction after it (R170). -/
def scaleInt (raw : Half) : Int :=
  ((tempSpan * raw.toNat * 2 ^ tempFracBits / rawMax : Nat) : Int) + tempMin * 2 ^ tempFracBits

/-- `scale(raw)` as the s32 that TEMP_OUT holds (R27, R170). -/
def scale (raw : Half) : BitVec 32 := BitVec.ofInt 32 (scaleInt raw)

end Sys2Proof.Machine
end

