-- ==== Sys2Proof/Machine/Ops.lean ====
section
/-! DEFINITION. The shared operations of the rules: `emit`, `send`, `complete`, acceptance, the verify step, and the reset event (spec 00_scope.md R10, 42_protocol.md R141, 60_exceptions.md R184, 30_encoding.md R92, 70_reset_and_hazards.md R210). A failed operation, the core's exception, is `complete` with the failure's status: it is the only way an operation ends (R184), and there is no return (R187). -/

namespace Sys2Proof.Machine

/-- An event goes to the end of the trace (R79). -/
def emit (e : Event) (s : State) : State := { s with trace := s.trace ++ [e] }

/-- `SEQ <- q`. -/
def goto (q : Seq) (s : State) : State := { s with seq := q }

/-- `complete(status, stage)`: STATUS, STAGE, SEQ <- IDLE, and `Done` (R184). -/
def complete (st : Status) (sg : Stage) (s : State) : State :=
  emit (.done st sg) { s with status := st, stage := sg, seq := .idle }

/-- `send(cmd)`: CMD_REG, TXBUF, and `Transmit` of the new TXBUF to the bus address (R141). -/
def send (cmd : Half) (s : State) : State :=
  emit (.transmit (busAddr s) (encodeCmd cmd)) { s with cmdReg := cmd, txBuf := encodeCmd cmd }

/-- `emit Receive(zext_8(DEV_ADDR), 3)` (R62). -/
def requestFrame (s : State) : State := emit (.receive (busAddr s) frameLen) s

/-- `emit SetPin(RESET_PIN, level)` (R65). -/
def setPin (level : PinLevel) (s : State) : State := emit (.setPin s.params.resetPin level) s

/-- `emit Delay(n)` (R66). -/
def startDelay (n : Nat) (s : State) : State := emit (.delay n) s

/-- `ERR_LATCH <- (r == fail)` (R33). -/
def latchWrite (r : TxAnswer) (s : State) : State := { s with errLatch := decide (r = .fail) }

/-- `MEAS <- b` (R34). -/
def setMeas (b : Bool) (s : State) : State := { s with meas := b }

/-- The TXBUF bytes of ENCODE (R132). -/
def writeTxBuf (b : CmdBytes) (s : State) : State := { s with txBuf := b }

/-- `DATA_OUT <- w` (R26). -/
def writeData (w : Half) (s : State) : State := { s with dataOut := w }

/-- `TEMP_OUT <- t` (R27). -/
def writeTemp (t : BitVec 32) (s : State) : State := { s with tempOut := t }

/-- `CRC_REG <- c` (R25). -/
def writeCrc (c : Byte) (s : State) : State := { s with crcReg := c }

/-- A frame is taken in: RXBUF and, from its first two bytes, CRC_REG (R24, R25). -/
def takeFrame (f : Frame) (s : State) : State := { s with rxBuf := f, crcReg := crc8 f.b0 f.b1 }

/-- `RXBUF[0..2] <- unspecified`: three free draws (R24, D17; log entry 2). -/
def garbleRxBuf (s : State) : State :=
  { s with
    rxBuf := ⟨Config.freeByte s.draws, Config.freeByte (s.draws + 1), Config.freeByte (s.draws + 2)⟩
    draws := s.draws + 3 }

/-- The verify step: the frame is taken in; on a wrong checksum the operation ends with CHECKSUM_MISMATCH at `stage`, and no
data register is written; on a match DATA_OUT is written, `onMatch` done, and the operation ends OK (R134, R136, R146, R158). -/
def verifyStep (f : Frame) (stage : Stage) (onMatch : State → State) (s : State) : State :=
  if verify f.b0 f.b1 f.b2 then
    complete .ok .none (onMatch (writeData (decodeData f.b0 f.b1) (takeFrame f s)))
  else
    complete .checksumMismatch stage (takeFrame f s)

/-- A request is acted on only in IDLE; while the core is BUSY it changes nothing (R92; DESIGN CHOICE,
log entry 15). -/
def accept (act : State → State) (s : State) : Result :=
  .next (if ready s then act s else s)

/-- The event `rst` with the strap's level: SEQ, STATUS, STAGE, ERR_LATCH and MEAS to their reset values, the strap sampled, every
data register a free draw, no output event (R210). The input event itself is recorded (DESIGN CHOICE, log entry 7). -/
def applyRst (strap : BitVec 1) (s : State) : State :=
  emit (.rst strap)
    { s with
      seq      := .idle
      status   := .ok
      stage    := .none
      errLatch := false
      meas     := false
      addrSelQ := strap
      cmdReg   := Config.freeHalf s.draws
      txBuf    := ⟨Config.freeByte s.draws, Config.freeByte (s.draws + 1)⟩
      rxBuf    := ⟨Config.freeByte (s.draws + 2), Config.freeByte (s.draws + 3), Config.freeByte (s.draws + 4)⟩
      crcReg   := Config.freeByte (s.draws + 5)
      dataOut  := Config.freeHalf (s.draws + 1)
      tempOut  := Config.freeWord s.draws
      draws    := s.draws + 6 }

end Sys2Proof.Machine
end

