-- ==== Sys2Proof/Machine/Protocol.lean ====
section
/-! DEFINITION. The accepting steps of the six protocol operations (spec 42_protocol.md R142, R144, R148, R150, R152, R154). What they do when the environment answers is in Sequencer.lean. -/

namespace Sys2Proof.Machine

/-- WRITE_COMMAND, accept (R142). -/
def execWriteCommand (cmd : Half) (s : State) : Result :=
  accept (fun s => goto .wcTx (send cmd s)) s

/-- READ_COMMAND, accept (R144). -/
def execReadCommand (cmd : Half) (s : State) : Result :=
  accept (fun s => goto .rcTx (send cmd s)) s

/-- START_MEASUREMENT, accept (R148). -/
def execStartMeasurement (cmd : Half) (s : State) : Result :=
  accept (fun s => goto .smTx (send cmd s)) s

/-- STOP_MEASUREMENT, accept (R150). -/
def execStopMeasurement (s : State) : Result :=
  accept (fun s => goto .spTx (send s.params.cmdBreak s)) s

/-- RESET_DEVICE, accept (R152). -/
def execResetDevice (s : State) : Result :=
  accept (fun s => goto .rsDly1 (startDelay tRstLow (setPin .low s))) s

/-- READ_TEMPERATURE, accept (R154). -/
def execReadTemperature (s : State) : Result :=
  accept (fun s => goto .rtTx1 (send s.params.cmdStartDefault s)) s

end Sys2Proof.Machine
end

