-- ==== Sys2Proof/Machine/Reserved.lean ====
section
/-! DEFINITION. The reserved OP values 0xB to 0xF: accepted, and completed in the same step with ILLEGAL_OP (spec 30_encoding.md R96). -/

namespace Sys2Proof.Machine

/-- `complete(ILLEGAL_OP, NONE)` and nothing else (R96). -/
def illegalOp (s : State) : State := complete .illegalOp .none s

/-- OP = 0xB (R96). -/
def execReservedB (s : State) : Result := accept illegalOp s

/-- OP = 0xC (R96). -/
def execReservedC (s : State) : Result := accept illegalOp s

/-- OP = 0xD (R96). -/
def execReservedD (s : State) : Result := accept illegalOp s

/-- OP = 0xE (R96). -/
def execReservedE (s : State) : Result := accept illegalOp s

/-- OP = 0xF (R96). -/
def execReservedF (s : State) : Result := accept illegalOp s

end Sys2Proof.Machine
end

