-- ==== Sys2Proof/Machine/Units.lean ====
section
/-! DEFINITION. The unit operations, which complete in their accepting step: CRC8 (spec 40_checksum.md R122), ENCODE, DECODE, PARSE_FRAME (41_codec_parser.md R132 to R134), CONVERT (43_converter.md R172). -/

namespace Sys2Proof.Machine

/-- CRC8 (R122). -/
def execCrc8 (b0 b1 : Byte) (s : State) : Result :=
  accept (fun s => complete .ok .none (writeCrc (crc8 b0 b1) s)) s

/-- ENCODE (R132); CMD_REG is not written. -/
def execEncode (cmd : Half) (s : State) : Result :=
  accept (fun s => complete .ok .none (writeTxBuf (encodeCmd cmd) s)) s

/-- DECODE (R133). -/
def execDecode (b0 b1 : Byte) (s : State) : Result :=
  accept (fun s => complete .ok .none (writeData (decodeData b0 b1) s)) s

/-- PARSE_FRAME (R134): the verify step on the host's frame. -/
def execParseFrame (b0 b1 b2 : Byte) (s : State) : Result :=
  accept (fun s => verifyStep ⟨b0, b1, b2⟩ .none id s) s

/-- CONVERT (R172). -/
def execConvert (raw : Half) (s : State) : Result :=
  accept (fun s => complete .ok .none (writeTemp (scale raw) s)) s

end Sys2Proof.Machine
end

