-- ==== Sys2Proof/Machine/Dispatch.lean ====
section
/-! DEFINITION. One arm per constructor of `Instr`: what an operation does in the step that accepts its request (spec 30_encoding.md R93). -/

namespace Sys2Proof.Machine

-- The step of the event Req(op, arg): the effect of an accepted request; a request made while BUSY changes nothing (R92).
def exec (i : Instr) (s : State) : Host.Outcome State Fault Refusal :=
  match i with
  | .writeCommand cmd => Sys2Proof.Machine.execWriteCommand cmd s
  | .readCommand cmd => Sys2Proof.Machine.execReadCommand cmd s
  | .startMeasurement cmd => Sys2Proof.Machine.execStartMeasurement cmd s
  | .stopMeasurement => Sys2Proof.Machine.execStopMeasurement s
  | .resetDevice => Sys2Proof.Machine.execResetDevice s
  | .readTemperature => Sys2Proof.Machine.execReadTemperature s
  | .crc8 b0 b1 => Sys2Proof.Machine.execCrc8 b0 b1 s
  | .encode cmd => Sys2Proof.Machine.execEncode cmd s
  | .decode b0 b1 => Sys2Proof.Machine.execDecode b0 b1 s
  | .parseFrame b0 b1 b2 => Sys2Proof.Machine.execParseFrame b0 b1 b2 s
  | .convert raw => Sys2Proof.Machine.execConvert raw s
  | .reservedB => Sys2Proof.Machine.execReservedB s
  | .reservedC => Sys2Proof.Machine.execReservedC s
  | .reservedD => Sys2Proof.Machine.execReservedD s
  | .reservedE => Sys2Proof.Machine.execReservedE s
  | .reservedF => Sys2Proof.Machine.execReservedF s

end Sys2Proof.Machine
end

