-- ==== Sys2Proof/Machine/Sequencer.lean ====
section
/-! DEFINITION. The steps of the wait states (spec 42_protocol.md R143, R145, R146, R148 to R151, R153, R155 to R158): what each does with the answer it waits for, and what an answer that no rule admits does (20_memory.md R68). -/

namespace Sys2Proof.Machine

/-! ### Answers to `Transmit` -/

/-- WC_TX: WRITE_COMMAND completes (R143). -/
def wcTxStep (r : TxAnswer) (s : State) : State :=
  match r with
  | .ok   => complete .ok .none s
  | .fail => complete .transportError .none s

/-- RC_TX: on a failed write READ_COMMAND ends and no `Receive` is emitted (R145). -/
def rcTxStep (r : TxAnswer) (s : State) : State :=
  match r with
  | .ok   => goto .rcRx (requestFrame s)
  | .fail => complete .transportError .none s

/-- SM_TX: the result is latched and the settle delay begins, whatever the result (R148). -/
def smTxStep (r : TxAnswer) (s : State) : State :=
  goto .smDly (startDelay tSettle (latchWrite r s))

/-- SP_TX: the result is latched and the delay begins, whatever the result (R150). -/
def spTxStep (r : TxAnswer) (s : State) : State :=
  goto .spDly (startDelay tBreak (latchWrite r s))

/-- RT_TX1: as SM_TX, for the start stage (R155). -/
def rtTx1Step (r : TxAnswer) (s : State) : State :=
  goto .rtDly (startDelay tSettle (latchWrite r s))

/-- RT_TX2: as RC_TX, with STAGE = FETCH on a failure (R157). -/
def rtTx2Step (r : TxAnswer) (s : State) : State :=
  match r with
  | .ok   => goto .rtRx (requestFrame s)
  | .fail => complete .transportError .fetch s

/-! ### Answers to `Receive` -/

/-- `if CMD_REG == CMD_FETCH_DATA then MEAS <- 0` (R146). -/
def clearMeasIfFetch (s : State) : State :=
  if s.cmdReg = s.params.cmdFetchData then setMeas false s else s

/-- RC_RX: the verify step of READ_COMMAND, or a failed receive (R146). -/
def rcRxStep (r : RxAnswer) (s : State) : State :=
  match r with
  | .ok f => verifyStep f .none clearMeasIfFetch s
  | .fail => complete .transportError .none (garbleRxBuf s)

/-- RT_RX: the verify step of READ_TEMPERATURE and its conversion, or a failed receive (R158). -/
def rtRxStep (r : RxAnswer) (s : State) : State :=
  match r with
  | .ok f => verifyStep f .fetch (fun s => setMeas false (writeTemp (scale (decodeData f.b0 f.b1)) s)) s
  | .fail => complete .transportError .fetch (garbleRxBuf s)

/-! ### Answers to `Delay` -/

/-- SM_DLY: START_MEASUREMENT reports the write's result (R149). -/
def smDlyStep (s : State) : State :=
  if s.errLatch then complete .transportError .none s else complete .ok .none (setMeas true s)

/-- SP_DLY: STOP_MEASUREMENT reports the write's result (R151). -/
def spDlyStep (s : State) : State :=
  if s.errLatch then complete .transportError .none s else complete .ok .none (setMeas false s)

/-- RS_DLY1: the pin goes high and the recovery delay begins (R153). -/
def rsDly1Step (s : State) : State :=
  goto .rsDly2 (startDelay tRstRecover (setPin .high s))

/-- RS_DLY2: RESET_DEVICE completes, always OK (R153). -/
def rsDly2Step (s : State) : State :=
  complete .ok .none (setMeas false s)

/-- RT_DLY: a failed start stage ends READ_TEMPERATURE; a good one is recorded in MEAS and the fetch command is sent (R156). -/
def rtDlyStep (s : State) : State :=
  if s.errLatch then complete .transportError .start s
  else goto .rtTx2 (send s.params.cmdFetchData (setMeas true s))

/-! ### The answer events -/

/-- The event `TxResp(r)`; each answer that is admitted is recorded before what the step emits (R79). -/
def onTxResp (r : TxAnswer) (s : State) : Result :=
  match s.seq with
  | .wcTx   => .next (wcTxStep r (emit (.txResp r) s))
  | .rcTx   => .next (rcTxStep r (emit (.txResp r) s))
  | .smTx   => .next (smTxStep r (emit (.txResp r) s))
  | .spTx   => .next (spTxStep r (emit (.txResp r) s))
  | .rtTx1  => .next (rtTx1Step r (emit (.txResp r) s))
  | .rtTx2  => .next (rtTx2Step r (emit (.txResp r) s))
  | .idle   => .fault (.unsolicitedTxResp .idle)
  | .rcRx   => .fault (.unsolicitedTxResp .rcRx)
  | .smDly  => .fault (.unsolicitedTxResp .smDly)
  | .spDly  => .fault (.unsolicitedTxResp .spDly)
  | .rsDly1 => .fault (.unsolicitedTxResp .rsDly1)
  | .rsDly2 => .fault (.unsolicitedTxResp .rsDly2)
  | .rtDly  => .fault (.unsolicitedTxResp .rtDly)
  | .rtRx   => .fault (.unsolicitedTxResp .rtRx)

/-- The event `RxResp(r)`. -/
def onRxResp (r : RxAnswer) (s : State) : Result :=
  match s.seq with
  | .rcRx   => .next (rcRxStep r (emit (.rxResp r) s))
  | .rtRx   => .next (rtRxStep r (emit (.rxResp r) s))
  | .idle   => .fault (.unsolicitedRxResp .idle)
  | .wcTx   => .fault (.unsolicitedRxResp .wcTx)
  | .rcTx   => .fault (.unsolicitedRxResp .rcTx)
  | .smTx   => .fault (.unsolicitedRxResp .smTx)
  | .smDly  => .fault (.unsolicitedRxResp .smDly)
  | .spTx   => .fault (.unsolicitedRxResp .spTx)
  | .spDly  => .fault (.unsolicitedRxResp .spDly)
  | .rsDly1 => .fault (.unsolicitedRxResp .rsDly1)
  | .rsDly2 => .fault (.unsolicitedRxResp .rsDly2)
  | .rtTx1  => .fault (.unsolicitedRxResp .rtTx1)
  | .rtDly  => .fault (.unsolicitedRxResp .rtDly)
  | .rtTx2  => .fault (.unsolicitedRxResp .rtTx2)

/-- The event `DelayDone`. -/
def onDelayDone (s : State) : Result :=
  match s.seq with
  | .smDly  => .next (smDlyStep (emit .delayDone s))
  | .spDly  => .next (spDlyStep (emit .delayDone s))
  | .rsDly1 => .next (rsDly1Step (emit .delayDone s))
  | .rsDly2 => .next (rsDly2Step (emit .delayDone s))
  | .rtDly  => .next (rtDlyStep (emit .delayDone s))
  | .idle   => .fault (.unsolicitedDelayDone .idle)
  | .wcTx   => .fault (.unsolicitedDelayDone .wcTx)
  | .rcTx   => .fault (.unsolicitedDelayDone .rcTx)
  | .rcRx   => .fault (.unsolicitedDelayDone .rcRx)
  | .smTx   => .fault (.unsolicitedDelayDone .smTx)
  | .spTx   => .fault (.unsolicitedDelayDone .spTx)
  | .rtTx1  => .fault (.unsolicitedDelayDone .rtTx1)
  | .rtTx2  => .fault (.unsolicitedDelayDone .rtTx2)
  | .rtRx   => .fault (.unsolicitedDelayDone .rtRx)

end Sys2Proof.Machine
end

