-- ==== Sys2Proof/Machine/Events.lean ====
section
/-! DEFINITION. What the core does with one input event (spec 00_scope.md R11, 30_encoding.md R92, 42_protocol.md R160). -/

namespace Sys2Proof.Machine

/-- The host offers a request word: in IDLE it is accepted, recorded as `Req(op, arg)`, and the decoded operation's accepting step
is done; while BUSY it is ignored, not recorded and not remembered (R92; DESIGN CHOICE, log entry 5). -/
def onOffer (w : Req) (s : State) : Result :=
  if ready s then exec (decode w) (emit (.req (opField w) (argField w)) s) else .next s

/-- One input event (R11). -/
def react (e : InputEvent) (s : State) : Result :=
  match e with
  | .offer w   => onOffer w s
  | .txResp r  => onTxResp r s
  | .rxResp r  => onRxResp r s
  | .delayDone => onDelayDone s
  | .rst strap => .next (applyRst strap s)

/-- The next input event is taken off the list and acted on; with none there the core waits and nothing changes (R11, R67;
DESIGN CHOICE, log entry 3). -/
def nextEvent (s : State) : Result :=
  match s.inputs with
  | []        => .next s
  | e :: rest => react e { s with inputs := rest }

/-- The request word `w` is offered next, to a core that is ready for it (log entry 9). -/
def offerNext (w : Nat) (s : State) : State :=
  { s with seq := .idle, inputs := .offer (BitVec.ofNat 28 w) :: s.inputs }

end Sys2Proof.Machine
end

