-- ==== Sys2Proof/Machine/Step.lean ====
section
/-! DEFINITION. The step: exactly one input event is consumed (spec 00_scope.md R11); and how the host's interface puts a request word before the core. -/

namespace Sys2Proof.Machine

/-- One step of the core. -/
def step (s : State) : Host.Outcome State Fault Refusal := nextEvent s

/-- `s` with the request word `w` offered next and the sequencer in IDLE, so that the next step accepts and runs it. The core
fetches nothing (R28, R77): a program is the list of request words that the host offers
(DESIGN CHOICE, log entry 9). -/
def State.withFetchWord (s : State) (_nbits w : Nat) : State := offerNext w s

end Sys2Proof.Machine
end

