-- ==== Sys2Proof/Machine/Ports.lean ====
section
/-! DEFINITION. The output ports of the core (spec 10_state.md R35, R30), each a function of the state; the host and the environment can read them at any time (R21). The input ports are `State.inputs`. -/

namespace Sys2Proof.Machine

/-- The output ports of R35, and every register that has no row there: "every register is readable by the host at any time as an
output of the core" (R21). That these registers, and DEV_ADDR of R30, are ports beside R35's is DEDUCED (log entry 13). -/
structure OutputPorts where
  ready    : BitVec 1
  busy     : BitVec 1
  status   : BitVec 3
  stage    : BitVec 2
  meas     : BitVec 1
  dataOut  : BitVec 16
  tempOut  : BitVec 32
  crcReg   : BitVec 8
  crcOk    : BitVec 1
  txBuf    : BitVec 16
  rxBuf    : BitVec 24
  seq      : BitVec 4
  cmdReg   : BitVec 16
  errLatch : BitVec 1
  addrSelQ : BitVec 1
  devAddr  : BitVec 7
deriving DecidableEq, Repr

/-- What the ports show in a state (R35, R21). -/
def outputs (s : State) : OutputPorts where
  ready    := BitVec.ofBool (ready s)
  busy     := BitVec.ofBool (busy s)
  status   := statusCode s.status
  stage    := stageCode s.stage
  meas     := BitVec.ofBool s.meas
  dataOut  := s.dataOut
  tempOut  := s.tempOut
  crcReg   := s.crcReg
  crcOk    := BitVec.ofBool (crcOk s)
  txBuf    := s.txBuf.b0 ++ s.txBuf.b1
  rxBuf    := s.rxBuf.b0 ++ (s.rxBuf.b1 ++ s.rxBuf.b2)
  seq      := seqCode s.seq
  cmdReg   := s.cmdReg
  errLatch := BitVec.ofBool s.errLatch
  addrSelQ := s.addrSelQ
  devAddr  := devAddr s

end Sys2Proof.Machine
end

