-- ==== Sys2Proof/Safety.lean ====
section
/-! DEFINITION. What claims about the core are phrased in: what each wait state waits for (spec 10_state.md R28), the environment's and the host's duties (20_memory.md R67, R68; 70_reset_and_hazards.md R222), the transition table (42_protocol.md R160), runs, and safe runs. -/

namespace Sys2Proof

/-! ### Duties -/

/-- The command word an operation carries, if it carries one (R91). -/
def Instr.cmd? : Instr → Option Half
  | .writeCommand c | .readCommand c | .startMeasurement c | .encode c => some c
  | .stopMeasurement | .resetDevice | .readTemperature | .crc8 _ _ | .decode _ _ | .parseFrame _ _ _ | .convert _ => none
  | .reservedB | .reservedC | .reservedD | .reservedE | .reservedF => none

/-- The closed command set of R100. -/
def Params.commandSet (p : Params) : List Half :=
  p.startCommands.map (·.word) ++
    [p.cmdFetchData, p.cmdBreak, p.cmdSoftReset, p.cmdReadStatus, p.cmdClearStatus, p.cmdReadSerial, p.cmdHeaterEnable,
      p.cmdHeaterDisable]

/-- CMD_START_DEFAULT is "a member of the periodic family" (R100). -/
def Params.defaultIsPeriodic (p : Params) : Bool :=
  p.startCommands.any fun c => c.mode == .periodic && c.word == p.cmdStartDefault

/-- The host's duty on command words: inside the closed set (R95, R222). The core does not check it. -/
def hostKeepsCommandSet (p : Params) (i : Instr) : Bool :=
  match i.cmd? with
  | some c => p.commandSet.contains c
  | none   => true

end Sys2Proof

namespace Sys2Proof.Machine

/-- The three kinds of answer (R61, R62, R66). -/
inductive AnswerKind where
  | txResp
  | rxResp
  | delayDone
deriving DecidableEq, Repr

/-- What the core waits for, by SEQ; `none` in IDLE, where it waits for `Req` (the table of R28). -/
def awaits : Seq → Option AnswerKind
  | .idle   => none
  | .wcTx   => some .txResp
  | .rcTx   => some .txResp
  | .rcRx   => some .rxResp
  | .smTx   => some .txResp
  | .smDly  => some .delayDone
  | .spTx   => some .txResp
  | .spDly  => some .delayDone
  | .rsDly1 => some .delayDone
  | .rsDly2 => some .delayDone
  | .rtTx1  => some .txResp
  | .rtDly  => some .delayDone
  | .rtTx2  => some .txResp
  | .rtRx   => some .rxResp

/-- The kind of answer an input event is; `none` for an offer and for `rst`. -/
def answerKind : InputEvent → Option AnswerKind
  | .offer _   => none
  | .txResp _  => some .txResp
  | .rxResp _  => some .rxResp
  | .delayDone => some .delayDone
  | .rst _     => none

/-- An input event is the answer that `q` waits for. -/
def answers (q : Seq) (e : InputEvent) : Bool := (awaits q).isSome && awaits q == answerKind e

/-- The environment keeps its duty at this event: it sends no answer but the awaited one. The host may offer a request and apply
`rst` at any time (R68, R222). -/
def admitted (q : Seq) (e : InputEvent) : Bool := (answerKind e).isNone || answers q e

/-- The operation whose wait state a sequencer state is (R28). -/
def seqOp : Seq → Option Op
  | .idle => none
  | .wcTx => some .writeCommand
  | .rcTx | .rcRx => some .readCommand
  | .smTx | .smDly => some .startMeasurement
  | .spTx | .spDly => some .stopMeasurement
  | .rsDly1 | .rsDly2 => some .resetDevice
  | .rtTx1 | .rtDly | .rtTx2 | .rtRx => some .readTemperature

/-- The transition table of R160, row by row: the next SEQ after an event, given SEQ and ERR_LATCH before it; `none` for a pair that
is not in the table. -/
def seqAfter (q : Seq) (e : InputEvent) (errLatch : Bool) : Option Seq :=
  match e with
  | .rst _ => some .idle
  | .offer w =>
    match q, opOfCode (opField w) with
    | .idle, .writeCommand     => some .wcTx
    | .idle, .readCommand      => some .rcTx
    | .idle, .startMeasurement => some .smTx
    | .idle, .stopMeasurement  => some .spTx
    | .idle, .resetDevice      => some .rsDly1
    | .idle, .readTemperature  => some .rtTx1
    | .idle, _                 => some .idle
    | _, _                     => none
  | .txResp r =>
    match q, r with
    | .wcTx, _     => some .idle
    | .rcTx, .fail => some .idle
    | .rcTx, .ok   => some .rcRx
    | .smTx, _     => some .smDly
    | .spTx, _     => some .spDly
    | .rtTx1, _    => some .rtDly
    | .rtTx2, .fail => some .idle
    | .rtTx2, .ok  => some .rtRx
    | _, _         => none
  | .rxResp _ =>
    match q with
    | .rcRx => some .idle
    | .rtRx => some .idle
    | _     => none
  | .delayDone =>
    match q with
    | .smDly  => some .idle
    | .spDly  => some .idle
    | .rsDly1 => some .rsDly2
    | .rsDly2 => some .idle
    | .rtDly  => if errLatch then some .idle else some .rtTx2
    | _       => none

/-- At most how many answers an operation still needs, by SEQ (R140). -/
def stepsLeft : Seq → Nat
  | .idle   => 0
  | .wcTx   => 1
  | .rcTx   => 2
  | .rcRx   => 1
  | .smTx   => 2
  | .smDly  => 1
  | .spTx   => 2
  | .spDly  => 1
  | .rsDly1 => 2
  | .rsDly2 => 1
  | .rtTx1  => 4
  | .rtDly  => 3
  | .rtTx2  => 2
  | .rtRx   => 1

/-- At most how many steps an operation takes, its accepting step included (R140). -/
def opSteps : Op → Nat
  | .writeCommand     => 2
  | .readCommand      => 3
  | .startMeasurement => 3
  | .stopMeasurement  => 3
  | .resetDevice      => 3
  | .readTemperature  => 5
  | .crc8 | .encode | .decode | .parseFrame | .convert => 1
  | .reservedB | .reservedC | .reservedD | .reservedE | .reservedF => 1

/-- `n` steps of the core. -/
def runSteps : Nat → State → Result
  | 0, s => .next s
  | n + 1, s =>
    match step s with
    | .next t    => runSteps n t
    | .fault f   => .fault f
    | .refused r => .refused r

/-- The operation in progress, run to at most `n` answers by an environment that answers in the wait state `q` with `env q`. An
operation is in each of its wait states at most once, so a function of SEQ gives every sequence of answers. -/
def driveWith (env : Seq → InputEvent) : Nat → State → Result
  | 0, s => .next s
  | n + 1, s =>
    if s.seq = .idle then .next s
    else
      match step { s with inputs := env s.seq :: s.inputs } with
      | .next t    => driveWith env n t
      | .fault f   => .fault f
      | .refused r => .refused r

/-- A run of `n` steps in which the core meets no event that breaks the environment's duty: the safe runs, those the spec has rules
for (R68). -/
def safeRun : Nat → State → Bool
  | 0, _ => true
  | n + 1, s =>
    match step s with
    | .next t    => safeRun n t
    | .fault _   => false
    | .refused _ => false

/-- The least time that the delays in a trace take, in time-units (R66, R223). -/
def delayTotal : List Event → Nat
  | [] => 0
  | .delay n :: es => n + delayTotal es
  | .req _ _ :: es | .transmit _ _ :: es | .txResp _ :: es | .receive _ _ :: es | .rxResp _ :: es | .setPin _ _ :: es
  | .delayDone :: es | .done _ _ :: es | .rst _ :: es => delayTotal es

/-- How many operations a trace ends (R184). -/
def doneCount : List Event → Nat
  | [] => 0
  | .done _ _ :: es => 1 + doneCount es
  | .req _ _ :: es | .transmit _ _ :: es | .txResp _ :: es | .receive _ _ :: es | .rxResp _ :: es | .setPin _ _ :: es
  | .delay _ :: es | .delayDone :: es | .rst _ :: es => doneCount es

/-- The event in flight (R37): in a wait state the last event of the trace is the request that the core waits to have answered,
carrying the present TXBUF and bus address; and in IDLE the trace is empty or ends with a completion that STATUS and STAGE show, or
with `rst`. -/
def requestInFlight (s : State) : Prop :=
  match s.seq with
  | .idle =>
    s.trace = [] ∨ (∃ pre, s.trace = pre ++ [.done s.status s.stage]) ∨ (∃ pre b, s.trace = pre ++ [.rst b])
  | .wcTx | .rcTx | .smTx | .spTx | .rtTx1 | .rtTx2 => ∃ pre, s.trace = pre ++ [.transmit (busAddr s) s.txBuf]
  | .rcRx | .rtRx => ∃ pre, s.trace = pre ++ [.receive (busAddr s) 3]
  | .smDly | .rtDly => ∃ pre, s.trace = pre ++ [.delay 20]
  | .spDly => ∃ pre, s.trace = pre ++ [.delay 1]
  | .rsDly1 => ∃ pre, s.trace = pre ++ [.setPin s.params.resetPin .low, .delay 1]
  | .rsDly2 => ∃ pre, s.trace = pre ++ [.setPin s.params.resetPin .high, .delay 100]

/-- The command in flight: while an operation that transmits is in progress, TXBUF is the encoding of CMD_REG (R23, R141), CMD_REG
the command of the operation's present stage, and in the fetch stage of READ_TEMPERATURE the start stage was good (R156). -/
def commandInFlight (s : State) : Prop :=
  match s.seq with
  | .idle | .rsDly1 | .rsDly2 => True
  | .wcTx | .rcTx | .rcRx | .smTx | .smDly => s.txBuf = encodeCmd s.cmdReg
  | .spTx | .spDly => s.txBuf = encodeCmd s.cmdReg ∧ s.cmdReg = s.params.cmdBreak
  | .rtTx1 | .rtDly => s.txBuf = encodeCmd s.cmdReg ∧ s.cmdReg = s.params.cmdStartDefault
  | .rtTx2 | .rtRx =>
    s.txBuf = encodeCmd s.cmdReg ∧ s.cmdReg = s.params.cmdFetchData ∧ s.meas = true ∧ s.errLatch = false

/-- STATUS and STAGE fit each other: only a failed READ_TEMPERATURE leaves a stage, START only with a transport error, and no stage
with an illegal operation (R32, R181). -/
def stageFitsStatus (s : State) : Prop :=
  match s.stage with
  | .none  => True
  | .start => s.status = .transportError
  | .fetch => s.status = .transportError ∨ s.status = .checksumMismatch

/-- The invariant of the core. -/
def Inv (s : State) : Prop := requestInFlight s ∧ commandInFlight s ∧ stageFitsStatus s

/-- Between `s` and `t` the trace has grown by the events `new`. -/
def traceGrew (s t : State) (new : List Event) : Prop := t.trace = s.trace ++ new

/-- The result that a write's answer stands for (R143, R149, R151). -/
def writeStatus : TxAnswer → Status
  | .ok   => .ok
  | .fail => .transportError

/-- MEAS after a step other than `rst`, given the state before it and the input event: the table of R34. -/
def measAfter (s : State) (e : InputEvent) : Bool :=
  match s.seq, e with
  | .smDly, .delayDone      => if s.errLatch then s.meas else true
  | .rtDly, .delayDone      => if s.errLatch then s.meas else true
  | .spDly, .delayDone      => if s.errLatch then s.meas else false
  | .rsDly2, .delayDone     => false
  | .rcRx, .rxResp (.ok f)  => if crc8 f.b0 f.b1 = f.b2 ∧ s.cmdReg = s.params.cmdFetchData then false else s.meas
  | .rtRx, .rxResp (.ok f)  => if crc8 f.b0 f.b1 = f.b2 then false else s.meas
  | _, _                    => s.meas

/-- ERR_LATCH after a step other than `rst` (R33). -/
def errLatchAfter (s : State) (e : InputEvent) : Bool :=
  match s.seq, e with
  | .smTx, .txResp r  => decide (r = .fail)
  | .spTx, .txResp r  => decide (r = .fail)
  | .rtTx1, .txResp r => decide (r = .fail)
  | _, _              => s.errLatch

/-- Two answers of a step that differ at most in MEAS. -/
def agreeUpToMeas (a b : Result) : Prop :=
  match a, b with
  | .next s, .next t       => { s with meas := t.meas } = t
  | .fault f, .fault g     => f = g
  | .refused p, .refused q => p = q
  | _, _                   => False

/-- Every `Receive` of a trace comes directly after a `TxResp(ok)`, and that directly after a `Transmit` (R145, R147, R157). -/
def receivesFollowGoodWrites (tr : List Event) : Prop :=
  ∀ pre a n post, tr = pre ++ .receive a n :: post → ∃ pre' b c, pre = pre' ++ [.transmit b c, .txResp .ok]

end Sys2Proof.Machine
end

