-- ==== Sys2Proof/Certificates/Slice0/Obligations.lean ====
section
/-! DEFINITION. The statements about the core that are to be proved; each cites the rules of spec/ it formalises. -/

open Sys2Proof Sys2Proof.Machine

/-! ### Steps, encodings -/

/-- R92. A request is accepted exactly in IDLE: then the step is the decoded operation's, on the state with the offer taken and
`Req(op, arg)` recorded; while the core is BUSY nothing changes. Two things are the model's choice, not R92's: that an offer made
while BUSY still leaves the list of inputs (log entry 5), and the last clause, that `exec` of any instruction on a BUSY state answers
that state unchanged (log entry 15). -/
def Obligations.RequestAcceptedOnlyInIdle : Prop :=
  (∀ (s : State) (w : Req) (rest : List InputEvent), s.inputs = .offer w :: rest →
    (s.seq = .idle → step s = exec (decode w)
      { s with inputs := rest, trace := s.trace ++ [.req (w.extractLsb' 24 4) (w.extractLsb' 0 24)] }) ∧
    (s.seq ≠ .idle → step s = .next { s with inputs := rest })) ∧
  ∀ (i : Instr) (s : State), s.seq ≠ .idle → exec i s = .next s

/-- The word that the host's interface puts before the core is decoded and run by the very next step (log entry 9). -/
def Obligations.FetchWordRunsNext : Prop :=
  ∀ (s : State) (nbits w : Nat) (i : Instr), decodeTableWord nbits w = some i →
    step (s.withFetchWord nbits w) = exec i
      { s with
        seq := .idle
        trace := s.trace ++ [.req ((BitVec.ofNat 28 w).extractLsb' 24 4) ((BitVec.ofNat 28 w).extractLsb' 0 24)] }

/-- R93. A word decodes to an operation exactly when it matches that operation's row under the row's mask. -/
def Obligations.OpcodeMapSelectsOperation : Prop :=
  ∀ row ∈ opRows, ∀ w : Req, (w &&& row.mask = row.pattern ↔ (decode w).op = row.op)

/-- R94. Words that agree in the bits the operation's layout names stand for the same instruction. -/
def Obligations.UnusedArgBitsIgnored : Prop :=
  ∀ w v : Req, (w ^^^ v) &&& (decode w).op.usedBits = 0#28 → decode v = decode w

/-- Decoding an encoded instruction gives it back, whatever its operands; encoding a decoded word gives the word with its ignored
bits cleared. -/
def Obligations.DecodeAndEncodeAgree : Prop :=
  (∀ i : Instr, decode (encode i) = i) ∧ ∀ w : Req, encode (decode w) = w &&& (decode w).op.usedBits

/-- Words written out from the spec's encodings decode to the operations they stand for. -/
def Obligations.SampleWordsDecode : Prop :=
  decode 0x00030A2#28 = .writeCommand 0x30A2#16 ∧ decode 0x100F32D#28 = .readCommand 0xF32D#16 ∧
  decode 0x2002130#28 = .startMeasurement 0x2130#16 ∧ decode 0x3ABCDEF#28 = .stopMeasurement ∧
  decode 0x4000000#28 = .resetDevice ∧ decode 0x5000000#28 = .readTemperature ∧
  decode 0x6FFBEEF#28 = .crc8 0xBE#8 0xEF#8 ∧ decode 0x7AB1234#28 = .encode 0x1234#16 ∧
  decode 0x8CD1234#28 = .decode 0x12#8 0x34#8 ∧ decode 0x9BEEF92#28 = .parseFrame 0xBE#8 0xEF#8 0x92#8 ∧
  decode 0xA12FFFF#28 = .convert 0xFFFF#16 ∧ decode 0xB000000#28 = .reservedB ∧ decode 0xF123456#28 = .reservedF

/-! ### The unit operations -/

/-- R122. CRC8: its encoding, the state it leaves, and its corner values. -/
def Obligations.Crc8WritesChecksum : Prop :=
  (∀ a : Arg, decode (0x6#4 ++ a) = .crc8 (a.extractLsb' 8 8) (a.extractLsb' 0 8)) ∧
  crc8 0x00#8 0x00#8 = 0x81#8 ∧ crc8 0xFF#8 0x00#8 = 0x00#8 ∧ crc8 0xBE#8 0xEF#8 = 0x92#8 ∧
  ∀ (b0 b1 : Byte) (s : State), s.seq = .idle → exec (.crc8 b0 b1) s = .next
    { s with
      crcReg := crc8 b0 b1, status := .ok, stage := .none, seq := .idle
      trace := s.trace ++ [.done .ok .none] }

/-- R132. ENCODE: its encoding, and the state it leaves. -/
def Obligations.EncodeWritesTxBuf : Prop :=
  (∀ a : Arg, decode (0x7#4 ++ a) = .encode (a.extractLsb' 0 16)) ∧
  ∀ (cmd : Half) (s : State), s.seq = .idle → exec (.encode cmd) s = .next
    { s with
      txBuf := ⟨cmd.extractLsb' 8 8, cmd.extractLsb' 0 8⟩, status := .ok, stage := .none, seq := .idle
      trace := s.trace ++ [.done .ok .none] }

/-- R133. DECODE: its encoding, and the state it leaves; DATA_OUT equals ARG[15:0]. -/
def Obligations.DecodeWritesDataOut : Prop :=
  (∀ a : Arg, decode (0x8#4 ++ a) = .decode (a.extractLsb' 8 8) (a.extractLsb' 0 8)) ∧
  (∀ a : Arg, (a.extractLsb' 8 8 ++ a.extractLsb' 0 8 : Half) = a.extractLsb' 0 16) ∧
  ∀ (b0 b1 : Byte) (s : State), s.seq = .idle → exec (.decode b0 b1) s = .next
    { s with
      dataOut := b0 ++ b1, status := .ok, stage := .none, seq := .idle
      trace := s.trace ++ [.done .ok .none] }

/-- R134. PARSE_FRAME: RXBUF and CRC_REG always, DATA_OUT only on a match; CRC_OK afterwards is 1 exactly when STATUS is OK. -/
def Obligations.ParseFrameVerifies : Prop :=
  (∀ a : Arg, decode (0x9#4 ++ a) = .parseFrame (a.extractLsb' 16 8) (a.extractLsb' 8 8) (a.extractLsb' 0 8)) ∧
  ∀ (b0 b1 b2 : Byte) (s : State), s.seq = .idle →
    (crc8 b0 b1 = b2 → exec (.parseFrame b0 b1 b2) s = .next
      { s with
        rxBuf := ⟨b0, b1, b2⟩, crcReg := crc8 b0 b1, dataOut := b0 ++ b1, status := .ok, stage := .none, seq := .idle
        trace := s.trace ++ [.done .ok .none] }) ∧
    (crc8 b0 b1 ≠ b2 → exec (.parseFrame b0 b1 b2) s = .next
      { s with
        rxBuf := ⟨b0, b1, b2⟩, crcReg := crc8 b0 b1, status := .checksumMismatch, stage := .none, seq := .idle
        trace := s.trace ++ [.done .checksumMismatch .none] }) ∧
    (∃ t, exec (.parseFrame b0 b1 b2) s = .next t ∧ (crcOk t = true ↔ t.status = .ok))

/-- R172. CONVERT: its encoding, the state it leaves, and its corner values. -/
def Obligations.ConvertWritesTempOut : Prop :=
  (∀ a : Arg, decode (0xA#4 ++ a) = .convert (a.extractLsb' 0 16)) ∧
  scale 0#16 = 0xFFD30000#32 ∧ scale 65535#16 = 0x00820000#32 ∧ scale 32767#16 = 0x002A7FA8#32 ∧
  scale 0x6666#16 = 0x00190000#32 ∧
  ∀ (raw : Half) (s : State), s.seq = .idle → exec (.convert raw) s = .next
    { s with
      tempOut := scale raw, status := .ok, stage := .none, seq := .idle
      trace := s.trace ++ [.done .ok .none] }

/-- R96. The five reserved OP values: accepted, and completed in the same step with ILLEGAL_OP; nothing else changes. -/
def Obligations.ReservedOpsAreIllegal : Prop :=
  (∀ a : Arg, decode (0xB#4 ++ a) = .reservedB ∧ decode (0xC#4 ++ a) = .reservedC ∧ decode (0xD#4 ++ a) = .reservedD ∧
    decode (0xE#4 ++ a) = .reservedE ∧ decode (0xF#4 ++ a) = .reservedF) ∧
  ∀ (i : Instr) (s : State), i ∈ [Instr.reservedB, .reservedC, .reservedD, .reservedE, .reservedF] → s.seq = .idle →
    exec i s = .next
      { s with
        status := .illegalOp, stage := .none, seq := .idle
        trace := s.trace ++ [.done .illegalOp .none] }

/-! ### The protocol operations, step by step -/

/-- R142. WRITE_COMMAND, accept. -/
def Obligations.WriteCommandSends : Prop :=
  (∀ a : Arg, decode (0x0#4 ++ a) = .writeCommand (a.extractLsb' 0 16)) ∧
  ∀ (cmd : Half) (s : State), s.seq = .idle → exec (.writeCommand cmd) s = .next
    { s with
      cmdReg := cmd, txBuf := ⟨cmd.extractLsb' 8 8, cmd.extractLsb' 0 8⟩, seq := .wcTx
      trace := s.trace ++ [.transmit (busAddr s) ⟨cmd.extractLsb' 8 8, cmd.extractLsb' 0 8⟩] }

/-- R143. WRITE_COMMAND, completion, and the whole operation: its trace and everything that it writes. -/
def Obligations.WriteCommandCompletes : Prop :=
  (∀ (s : State) (a : Arg) (r : TxAnswer) (rest : List InputEvent), s.seq = .idle →
    s.inputs = .offer (0x0#4 ++ a) :: .txResp r :: rest →
    ∃ t tr, runSteps 2 s = .next t ∧ t =
      { s with
        inputs := rest, cmdReg := a.extractLsb' 0 16, txBuf := encodeCmd (a.extractLsb' 0 16)
        status := writeStatus r, stage := .none, trace := tr } ∧
      traceGrew s t [.req 0x0#4 a, .transmit (busAddr s) (encodeCmd (a.extractLsb' 0 16)), .txResp r,
        .done (writeStatus r) .none]) ∧
  ∀ (s : State) (rest : List InputEvent), s.seq = .wcTx →
    (s.inputs = .txResp .ok :: rest → step s = .next
      { s with
        inputs := rest, status := .ok, stage := .none, seq := .idle
        trace := s.trace ++ [.txResp .ok, .done .ok .none] }) ∧
    (s.inputs = .txResp .fail :: rest → step s = .next
      { s with
        inputs := rest, status := .transportError, stage := .none, seq := .idle
        trace := s.trace ++ [.txResp .fail, .done .transportError .none] })

/-- R144. READ_COMMAND, accept. -/
def Obligations.ReadCommandSends : Prop :=
  (∀ a : Arg, decode (0x1#4 ++ a) = .readCommand (a.extractLsb' 0 16)) ∧
  ∀ (cmd : Half) (s : State), s.seq = .idle → exec (.readCommand cmd) s = .next
    { s with
      cmdReg := cmd, txBuf := ⟨cmd.extractLsb' 8 8, cmd.extractLsb' 0 8⟩, seq := .rcTx
      trace := s.trace ++ [.transmit (busAddr s) ⟨cmd.extractLsb' 8 8, cmd.extractLsb' 0 8⟩] }

/-- R145. READ_COMMAND, after the write: no `Receive` on a failed write, and no delay before it on a good one. -/
def Obligations.ReadCommandShortCircuits : Prop :=
  ∀ (s : State) (rest : List InputEvent), s.seq = .rcTx →
    (s.inputs = .txResp .fail :: rest → step s = .next
      { s with
        inputs := rest, status := .transportError, stage := .none, seq := .idle
        trace := s.trace ++ [.txResp .fail, .done .transportError .none] }) ∧
    (s.inputs = .txResp .ok :: rest → step s = .next
      { s with
        inputs := rest, seq := .rcRx
        trace := s.trace ++ [.txResp .ok, .receive (busAddr s) 3] })

/-- R146. READ_COMMAND, after the read: the verify step, after the four ways that the whole operation can go, with their traces. After
a failed receive RXBUF holds some three bytes, of which nothing is said. -/
def Obligations.ReadCommandVerifies : Prop :=
  (∀ (s : State) (a : Arg) (f : Frame) (rest : List InputEvent), s.seq = .idle →
    (s.inputs = .offer (0x1#4 ++ a) :: .txResp .fail :: rest →
      ∃ t, runSteps 2 s = .next t ∧ t.seq = .idle ∧ t.status = .transportError ∧ t.dataOut = s.dataOut ∧ t.rxBuf = s.rxBuf ∧
        t.crcReg = s.crcReg ∧ t.meas = s.meas ∧ traceGrew s t
          [.req 0x1#4 a, .transmit (busAddr s) (encodeCmd (a.extractLsb' 0 16)), .txResp .fail, .done .transportError .none]) ∧
    (s.inputs = .offer (0x1#4 ++ a) :: .txResp .ok :: .rxResp .fail :: rest →
      ∃ t, runSteps 3 s = .next t ∧ t.seq = .idle ∧ t.status = .transportError ∧ t.dataOut = s.dataOut ∧
        t.crcReg = s.crcReg ∧ t.meas = s.meas ∧ traceGrew s t
          [.req 0x1#4 a, .transmit (busAddr s) (encodeCmd (a.extractLsb' 0 16)), .txResp .ok, .receive (busAddr s) 3,
            .rxResp .fail, .done .transportError .none]) ∧
    (s.inputs = .offer (0x1#4 ++ a) :: .txResp .ok :: .rxResp (.ok f) :: rest → crc8 f.b0 f.b1 ≠ f.b2 →
      ∃ t, runSteps 3 s = .next t ∧ t.seq = .idle ∧ t.status = .checksumMismatch ∧ t.dataOut = s.dataOut ∧ t.rxBuf = f ∧
        t.crcReg = crc8 f.b0 f.b1 ∧ t.meas = s.meas ∧ traceGrew s t
          [.req 0x1#4 a, .transmit (busAddr s) (encodeCmd (a.extractLsb' 0 16)), .txResp .ok, .receive (busAddr s) 3,
            .rxResp (.ok f), .done .checksumMismatch .none]) ∧
    (s.inputs = .offer (0x1#4 ++ a) :: .txResp .ok :: .rxResp (.ok f) :: rest → crc8 f.b0 f.b1 = f.b2 →
      ∃ t, runSteps 3 s = .next t ∧ t.seq = .idle ∧ t.status = .ok ∧ t.dataOut = f.b0 ++ f.b1 ∧ t.rxBuf = f ∧
        t.crcReg = f.b2 ∧ t.meas = (if a.extractLsb' 0 16 = s.params.cmdFetchData then false else s.meas) ∧ traceGrew s t
          [.req 0x1#4 a, .transmit (busAddr s) (encodeCmd (a.extractLsb' 0 16)), .txResp .ok, .receive (busAddr s) 3,
            .rxResp (.ok f), .done .ok .none])) ∧
  ∀ (s : State) (rest : List InputEvent), s.seq = .rcRx →
    (s.inputs = .rxResp .fail :: rest → ∃ g n, step s = .next
      { s with
        inputs := rest, rxBuf := g, draws := n, status := .transportError, stage := .none, seq := .idle
        trace := s.trace ++ [.rxResp .fail, .done .transportError .none] }) ∧
    (∀ f : Frame, s.inputs = .rxResp (.ok f) :: rest → crc8 f.b0 f.b1 ≠ f.b2 → step s = .next
      { s with
        inputs := rest, rxBuf := f, crcReg := crc8 f.b0 f.b1, status := .checksumMismatch, stage := .none, seq := .idle
        trace := s.trace ++ [.rxResp (.ok f), .done .checksumMismatch .none] }) ∧
    (∀ f : Frame, s.inputs = .rxResp (.ok f) :: rest → crc8 f.b0 f.b1 = f.b2 → step s = .next
      { s with
        inputs := rest, rxBuf := f, crcReg := crc8 f.b0 f.b1, dataOut := f.b0 ++ f.b1
        meas := if s.cmdReg = s.params.cmdFetchData then false else s.meas
        status := .ok, stage := .none, seq := .idle
        trace := s.trace ++ [.rxResp (.ok f), .done .ok .none] })

/-- R148. START_MEASUREMENT, accept and write: the settle delay is emitted whether the write succeeded or failed. -/
def Obligations.StartMeasurementWrites : Prop :=
  (∀ a : Arg, decode (0x2#4 ++ a) = .startMeasurement (a.extractLsb' 0 16)) ∧
  (∀ (cmd : Half) (s : State), s.seq = .idle → exec (.startMeasurement cmd) s = .next
    { s with
      cmdReg := cmd, txBuf := ⟨cmd.extractLsb' 8 8, cmd.extractLsb' 0 8⟩, seq := .smTx
      trace := s.trace ++ [.transmit (busAddr s) ⟨cmd.extractLsb' 8 8, cmd.extractLsb' 0 8⟩] }) ∧
  ∀ (s : State) (r : TxAnswer) (rest : List InputEvent), s.seq = .smTx → s.inputs = .txResp r :: rest → step s = .next
    { s with
      inputs := rest, errLatch := decide (r = .fail), seq := .smDly
      trace := s.trace ++ [.txResp r, .delay 20] }

/-- R149. START_MEASUREMENT, completion: the result is the write's, and MEAS is set on success; and the whole operation, whatever
MEAS was. -/
def Obligations.StartMeasurementCompletes : Prop :=
  (∀ (s : State) (a : Arg) (r : TxAnswer) (rest : List InputEvent), s.seq = .idle →
    s.inputs = .offer (0x2#4 ++ a) :: .txResp r :: .delayDone :: rest →
    ∃ t tr, runSteps 3 s = .next t ∧ t =
      { s with
        inputs := rest, cmdReg := a.extractLsb' 0 16, txBuf := encodeCmd (a.extractLsb' 0 16), errLatch := decide (r = .fail)
        meas := if r = .ok then true else s.meas, status := writeStatus r, stage := .none, trace := tr } ∧
      traceGrew s t [.req 0x2#4 a, .transmit (busAddr s) (encodeCmd (a.extractLsb' 0 16)), .txResp r, .delay 20, .delayDone,
        .done (writeStatus r) .none]) ∧
  ∀ (s : State) (rest : List InputEvent), s.seq = .smDly → s.inputs = .delayDone :: rest →
    (s.errLatch = true → step s = .next
      { s with
        inputs := rest, status := .transportError, stage := .none, seq := .idle
        trace := s.trace ++ [.delayDone, .done .transportError .none] }) ∧
    (s.errLatch = false → step s = .next
      { s with
        inputs := rest, meas := true, status := .ok, stage := .none, seq := .idle
        trace := s.trace ++ [.delayDone, .done .ok .none] })

/-- R150. STOP_MEASUREMENT, accept and write: CMD_BREAK is sent, and the delay is emitted on both paths. -/
def Obligations.StopMeasurementWrites : Prop :=
  (∀ a : Arg, decode (0x3#4 ++ a) = .stopMeasurement) ∧
  (∀ s : State, s.seq = .idle → exec .stopMeasurement s = .next
    { s with
      cmdReg := s.params.cmdBreak
      txBuf := ⟨s.params.cmdBreak.extractLsb' 8 8, s.params.cmdBreak.extractLsb' 0 8⟩, seq := .spTx
      trace := s.trace ++
        [.transmit (busAddr s) ⟨s.params.cmdBreak.extractLsb' 8 8, s.params.cmdBreak.extractLsb' 0 8⟩] }) ∧
  ∀ (s : State) (r : TxAnswer) (rest : List InputEvent), s.seq = .spTx → s.inputs = .txResp r :: rest → step s = .next
    { s with
      inputs := rest, errLatch := decide (r = .fail), seq := .spDly
      trace := s.trace ++ [.txResp r, .delay 1] }

/-- R151. STOP_MEASUREMENT, completion, and the whole operation, whatever MEAS was. -/
def Obligations.StopMeasurementCompletes : Prop :=
  (∀ (s : State) (a : Arg) (r : TxAnswer) (rest : List InputEvent), s.seq = .idle →
    s.inputs = .offer (0x3#4 ++ a) :: .txResp r :: .delayDone :: rest →
    ∃ t tr, runSteps 3 s = .next t ∧ t =
      { s with
        inputs := rest, cmdReg := s.params.cmdBreak, txBuf := encodeCmd s.params.cmdBreak, errLatch := decide (r = .fail)
        meas := if r = .ok then false else s.meas, status := writeStatus r, stage := .none, trace := tr } ∧
      traceGrew s t [.req 0x3#4 a, .transmit (busAddr s) (encodeCmd s.params.cmdBreak), .txResp r, .delay 1, .delayDone,
        .done (writeStatus r) .none]) ∧
  ∀ (s : State) (rest : List InputEvent), s.seq = .spDly → s.inputs = .delayDone :: rest →
    (s.errLatch = true → step s = .next
      { s with
        inputs := rest, status := .transportError, stage := .none, seq := .idle
        trace := s.trace ++ [.delayDone, .done .transportError .none] }) ∧
    (s.errLatch = false → step s = .next
      { s with
        inputs := rest, meas := false, status := .ok, stage := .none, seq := .idle
        trace := s.trace ++ [.delayDone, .done .ok .none] })

/-- R152. RESET_DEVICE, accept: the pin goes low and the first delay begins; no register but SEQ is written. -/
def Obligations.ResetDeviceDrivesLow : Prop :=
  (∀ a : Arg, decode (0x4#4 ++ a) = .resetDevice) ∧
  ∀ s : State, s.seq = .idle → exec .resetDevice s = .next
    { s with
      seq := .rsDly1
      trace := s.trace ++ [.setPin s.params.resetPin .low, .delay 1] }

/-- R153. RESET_DEVICE, the remaining steps: the pin goes high, then the operation completes, always OK, with MEAS cleared; and the
whole operation, which writes no other register. -/
def Obligations.ResetDeviceDrivesHighAndCompletes : Prop :=
  (∀ (s : State) (a : Arg) (rest : List InputEvent), s.seq = .idle →
    s.inputs = .offer (0x4#4 ++ a) :: .delayDone :: .delayDone :: rest →
    ∃ t tr, runSteps 3 s = .next t ∧
      t = { s with inputs := rest, meas := false, status := .ok, stage := .none, trace := tr } ∧
      traceGrew s t [.req 0x4#4 a, .setPin s.params.resetPin .low, .delay 1, .delayDone, .setPin s.params.resetPin .high,
        .delay 100, .delayDone, .done .ok .none]) ∧
  (∀ (s : State) (rest : List InputEvent), s.seq = .rsDly1 → s.inputs = .delayDone :: rest → step s = .next
    { s with
      inputs := rest, seq := .rsDly2
      trace := s.trace ++ [.delayDone, .setPin s.params.resetPin .high, .delay 100] }) ∧
  ∀ (s : State) (rest : List InputEvent), s.seq = .rsDly2 → s.inputs = .delayDone :: rest → step s = .next
    { s with
      inputs := rest, meas := false, status := .ok, stage := .none, seq := .idle
      trace := s.trace ++ [.delayDone, .done .ok .none] }

/-- R154. READ_TEMPERATURE, accept: CMD_START_DEFAULT is sent. -/
def Obligations.ReadTemperatureSendsStart : Prop :=
  (∀ a : Arg, decode (0x5#4 ++ a) = .readTemperature) ∧
  ∀ s : State, s.seq = .idle → exec .readTemperature s = .next
    { s with
      cmdReg := s.params.cmdStartDefault
      txBuf := ⟨s.params.cmdStartDefault.extractLsb' 8 8, s.params.cmdStartDefault.extractLsb' 0 8⟩, seq := .rtTx1
      trace := s.trace ++ [.transmit (busAddr s)
        ⟨s.params.cmdStartDefault.extractLsb' 8 8, s.params.cmdStartDefault.extractLsb' 0 8⟩] }

/-- R155. READ_TEMPERATURE, start stage, after the write. -/
def Obligations.ReadTemperatureSettles : Prop :=
  ∀ (s : State) (r : TxAnswer) (rest : List InputEvent), s.seq = .rtTx1 → s.inputs = .txResp r :: rest → step s = .next
    { s with
      inputs := rest, errLatch := decide (r = .fail), seq := .rtDly
      trace := s.trace ++ [.txResp r, .delay 20] }

/-- R156. READ_TEMPERATURE, end of the start stage: no fetch after a failed start; MEAS and the fetch command after a good one. -/
def Obligations.ReadTemperatureEndsStartStage : Prop :=
  ∀ (s : State) (rest : List InputEvent), s.seq = .rtDly → s.inputs = .delayDone :: rest →
    (s.errLatch = true → step s = .next
      { s with
        inputs := rest, status := .transportError, stage := .start, seq := .idle
        trace := s.trace ++ [.delayDone, .done .transportError .start] }) ∧
    (s.errLatch = false → step s = .next
      { s with
        inputs := rest, meas := true, cmdReg := s.params.cmdFetchData
        txBuf := ⟨s.params.cmdFetchData.extractLsb' 8 8, s.params.cmdFetchData.extractLsb' 0 8⟩, seq := .rtTx2
        trace := s.trace ++ [.delayDone, .transmit (busAddr s)
          ⟨s.params.cmdFetchData.extractLsb' 8 8, s.params.cmdFetchData.extractLsb' 0 8⟩] })

/-- R157. READ_TEMPERATURE, fetch stage, after the write. -/
def Obligations.ReadTemperatureRequestsFrame : Prop :=
  ∀ (s : State) (rest : List InputEvent), s.seq = .rtTx2 →
    (s.inputs = .txResp .fail :: rest → step s = .next
      { s with
        inputs := rest, status := .transportError, stage := .fetch, seq := .idle
        trace := s.trace ++ [.txResp .fail, .done .transportError .fetch] }) ∧
    (s.inputs = .txResp .ok :: rest → step s = .next
      { s with
        inputs := rest, seq := .rtRx
        trace := s.trace ++ [.txResp .ok, .receive (busAddr s) 3] })

/-- R158. READ_TEMPERATURE, fetch stage, after the read, and conversion; before it the five ways that the whole operation can go, with
their traces. After a failed receive RXBUF holds some three bytes, of which nothing is said. -/
def Obligations.ReadTemperatureVerifiesAndConverts : Prop :=
  (∀ (s : State) (a : Arg) (f : Frame) (rest : List InputEvent), s.seq = .idle →
    (s.inputs = .offer (0x5#4 ++ a) :: .txResp .fail :: .delayDone :: rest →
      ∃ t, runSteps 3 s = .next t ∧ t.seq = .idle ∧ t.inputs = rest ∧ t.dataOut = s.dataOut ∧ t.tempOut = s.tempOut ∧
        t.meas = s.meas ∧ traceGrew s t
          [.req 0x5#4 a, .transmit (busAddr s) (encodeCmd s.params.cmdStartDefault), .txResp .fail, .delay 20, .delayDone,
            .done .transportError .start]) ∧
    (s.inputs = .offer (0x5#4 ++ a) :: .txResp .ok :: .delayDone :: .txResp .fail :: rest →
      ∃ t, runSteps 4 s = .next t ∧ t.seq = .idle ∧ t.inputs = rest ∧ t.dataOut = s.dataOut ∧ t.tempOut = s.tempOut ∧
        t.meas = true ∧ traceGrew s t
          [.req 0x5#4 a, .transmit (busAddr s) (encodeCmd s.params.cmdStartDefault), .txResp .ok, .delay 20, .delayDone,
            .transmit (busAddr s) (encodeCmd s.params.cmdFetchData), .txResp .fail, .done .transportError .fetch]) ∧
    (s.inputs = .offer (0x5#4 ++ a) :: .txResp .ok :: .delayDone :: .txResp .ok :: .rxResp .fail :: rest →
      ∃ t, runSteps 5 s = .next t ∧ t.seq = .idle ∧ t.inputs = rest ∧ t.dataOut = s.dataOut ∧ t.tempOut = s.tempOut ∧
        t.meas = true ∧ traceGrew s t
          [.req 0x5#4 a, .transmit (busAddr s) (encodeCmd s.params.cmdStartDefault), .txResp .ok, .delay 20, .delayDone,
            .transmit (busAddr s) (encodeCmd s.params.cmdFetchData), .txResp .ok, .receive (busAddr s) 3, .rxResp .fail,
            .done .transportError .fetch]) ∧
    (s.inputs = .offer (0x5#4 ++ a) :: .txResp .ok :: .delayDone :: .txResp .ok :: .rxResp (.ok f) :: rest →
      crc8 f.b0 f.b1 ≠ f.b2 →
      ∃ t, runSteps 5 s = .next t ∧ t.seq = .idle ∧ t.inputs = rest ∧ t.dataOut = s.dataOut ∧ t.tempOut = s.tempOut ∧
        t.meas = true ∧ t.rxBuf = f ∧ traceGrew s t
          [.req 0x5#4 a, .transmit (busAddr s) (encodeCmd s.params.cmdStartDefault), .txResp .ok, .delay 20, .delayDone,
            .transmit (busAddr s) (encodeCmd s.params.cmdFetchData), .txResp .ok, .receive (busAddr s) 3, .rxResp (.ok f),
            .done .checksumMismatch .fetch]) ∧
    (s.inputs = .offer (0x5#4 ++ a) :: .txResp .ok :: .delayDone :: .txResp .ok :: .rxResp (.ok f) :: rest →
      crc8 f.b0 f.b1 = f.b2 →
      ∃ t, runSteps 5 s = .next t ∧ t.seq = .idle ∧ t.inputs = rest ∧ t.dataOut = f.b0 ++ f.b1 ∧
        t.tempOut = scale (f.b0 ++ f.b1) ∧ t.meas = false ∧ t.rxBuf = f ∧ traceGrew s t
          [.req 0x5#4 a, .transmit (busAddr s) (encodeCmd s.params.cmdStartDefault), .txResp .ok, .delay 20, .delayDone,
            .transmit (busAddr s) (encodeCmd s.params.cmdFetchData), .txResp .ok, .receive (busAddr s) 3, .rxResp (.ok f),
            .done .ok .none])) ∧
  ∀ (s : State) (rest : List InputEvent), s.seq = .rtRx →
    (s.inputs = .rxResp .fail :: rest → ∃ g n, step s = .next
      { s with
        inputs := rest, rxBuf := g, draws := n, status := .transportError, stage := .fetch, seq := .idle
        trace := s.trace ++ [.rxResp .fail, .done .transportError .fetch] }) ∧
    (∀ f : Frame, s.inputs = .rxResp (.ok f) :: rest → crc8 f.b0 f.b1 ≠ f.b2 → step s = .next
      { s with
        inputs := rest, rxBuf := f, crcReg := crc8 f.b0 f.b1, status := .checksumMismatch, stage := .fetch, seq := .idle
        trace := s.trace ++ [.rxResp (.ok f), .done .checksumMismatch .fetch] }) ∧
    (∀ f : Frame, s.inputs = .rxResp (.ok f) :: rest → crc8 f.b0 f.b1 = f.b2 → step s = .next
      { s with
        inputs := rest, rxBuf := f, crcReg := crc8 f.b0 f.b1, dataOut := f.b0 ++ f.b1, tempOut := scale (f.b0 ++ f.b1)
        meas := false, status := .ok, stage := .none, seq := .idle
        trace := s.trace ++ [.rxResp (.ok f), .done .ok .none] })

/-! ### Reset, waiting, answers nobody asked for -/

/-- R210. The event `rst` has a step from every state; after it the data registers hold some values, of which nothing is said. That
the trace records `rst`, with the strap's level, is the model's choice (log entries 6 and 7). -/
def Obligations.RstResetsFromEveryState : Prop :=
  ∀ (s : State) (b : BitVec 1) (rest : List InputEvent), s.inputs = .rst b :: rest →
    ∃ cmd tx rx crc data temp n, step s = .next
      { s with
        inputs := rest, seq := .idle, status := .ok, stage := .none, errLatch := false, meas := false, addrSelQ := b
        cmdReg := cmd, txBuf := tx, rxBuf := rx, crcReg := crc, dataOut := data, tempOut := temp, draws := n
        trace := s.trace ++ [.rst b] }

/-- R21. The registers with a stated reset value hold it in `State.reset`; ADDR_SEL_Q holds the level of the strap at that reset, which
the model has as the open constant `Config.addrSel` (the model's choice, log entry 6). -/
def Obligations.ResetStateHasStatedValues : Prop :=
  seqCode State.reset.seq = 0#4 ∧ statusCode State.reset.status = 0#3 ∧ stageCode State.reset.stage = 0#2 ∧
  State.reset.errLatch = false ∧ State.reset.meas = false ∧ State.reset.addrSelQ = Config.addrSel

/-- R68. A step stops exactly on an answer that the core did not ask for (the model's fault for the step the rules do not have: log
entry 4), and never by a refusal; with no input event the core waits unchanged (log entry 3). -/
def Obligations.StepFaultsExactlyOnUnaskedAnswers : Prop :=
  ∀ s : State,
    ((∃ f, step s = .fault f) ↔ ∃ e rest, s.inputs = e :: rest ∧ admitted s.seq e = false) ∧
    (∀ r, step s ≠ .refused r) ∧ (s.inputs = [] → step s = .next s)

/-! ### The sequencer -/

/-- R160 ("derived from the rules it cites"). The transition table: for every SEQ and every event that is no request to a BUSY core, the step goes to the table's next
SEQ; for a pair not in the table there is no next state. (A request to a BUSY core: `RequestAcceptedOnlyInIdle`.) -/
def Obligations.StepFollowsTransitionTable : Prop :=
  ∀ (s : State) (e : InputEvent) (rest : List InputEvent), s.inputs = e :: rest → (∀ w, e = .offer w → s.seq = .idle) →
    (∀ q, seqAfter s.seq e s.errLatch = some q → ∃ t, step s = .next t ∧ t.seq = q) ∧
    (seqAfter s.seq e s.errLatch = none → ∀ t, step s ≠ .next t)

/-- R29 ("derived: from 42_protocol.md"). SEQ never moves from one operation's states to another's without passing through IDLE. -/
def Obligations.SequencerStaysInOperation : Prop :=
  ∀ s t : State, step s = .next t → s.seq = .idle ∨ t.seq = .idle ∨ seqOp t.seq = seqOp s.seq

/-- R140 (the bounds "derived: from rules R142 to R158"). Every operation ends, within the bounds, for every environment that answers what it is
asked; it ends with exactly one `Done`, which STATUS and STAGE show. -/
def Obligations.OperationsEndInBoundedSteps : Prop :=
  ∀ (env : Machine.Seq → InputEvent), (∀ q, q ≠ .idle → answers q (env q) = true) →
    ∀ (s : State) (w : Req) (rest : List InputEvent), s.seq = .idle → s.inputs = .offer w :: rest →
      ∃ t u, step s = .next t ∧ driveWith env (opSteps (decode w).op - 1) t = .next u ∧ u.seq = .idle ∧ u.inputs = rest ∧
        ∃ new, u.trace = s.trace ++ new ++ [.done u.status u.stage] ∧ doneCount new = 0

/-- R220, R223. The delays that each operation makes, for every environment that answers what it is asked: 20 for a start, 1 for a
stop, 101 for a device reset, 20 for a reading, none for the others, on success and on failure alike. -/
def Obligations.OperationsMakeTheirDelays : Prop :=
  ∀ (env : Machine.Seq → InputEvent), (∀ q, q ≠ .idle → answers q (env q) = true) →
    ∀ (s : State) (w : Req) (rest : List InputEvent), s.seq = .idle → s.inputs = .offer w :: rest →
      ∃ t u new, step s = .next t ∧ driveWith env (opSteps (decode w).op - 1) t = .next u ∧ u.trace = s.trace ++ new ∧
        delayTotal new =
          (if (decode w).op = .startMeasurement ∨ (decode w).op = .readTemperature then 20
           else if (decode w).op = .stopMeasurement then 1
           else if (decode w).op = .resetDevice then 101
           else 0)

/-! ### Invariants -/

/-- R37. The invariant is kept by every step: in a wait state exactly the awaited request stands last in the trace, with the present
TXBUF and bus address; the command in flight is the operation's; STATUS and STAGE fit each other. -/
def Obligations.InvKeptByEveryStep : Prop :=
  ∀ s t : State, Inv s → step s = .next t → Inv t

/-- The invariants hold right after reset. -/
def Obligations.InvHoldsAtReset : Prop :=
  Inv State.reset ∧ receivesFollowGoodWrites State.reset.trace

/-- R145, R147, R157. No step makes a trace in which a `Receive` does not directly follow a `Transmit` that was answered `ok`. -/
def Obligations.ReceivesFollowGoodWritesKept : Prop :=
  ∀ s t : State, Inv s → receivesFollowGoodWrites s.trace → step s = .next t → receivesFollowGoodWrites t.trace

/-! ### Who writes what -/

/-- R39 (a table "derived" from the operations' rules). What an operation's `exec` leaves unchanged, by operation. -/
def Obligations.ExecWritesOnlyItsRegisters : Prop :=
  ∀ (i : Instr) (s t : State), exec i s = .next t →
    t.params = s.params ∧ t.inputs = s.inputs ∧ t.draws = s.draws ∧ t.addrSelQ = s.addrSelQ ∧ t.errLatch = s.errLatch ∧
    t.meas = s.meas ∧
    (i.op ≠ .parseFrame → t.rxBuf = s.rxBuf) ∧
    (i.op ≠ .parseFrame → i.op ≠ .crc8 → t.crcReg = s.crcReg) ∧
    (i.op ≠ .parseFrame → i.op ≠ .decode → t.dataOut = s.dataOut) ∧
    (i.op ≠ .convert → t.tempOut = s.tempOut) ∧
    (i.op ∉ [Op.writeCommand, .readCommand, .startMeasurement, .stopMeasurement, .readTemperature] →
      t.cmdReg = s.cmdReg ∧ (i.op ≠ .encode → t.txBuf = s.txBuf)) ∧
    (t.seq ≠ .idle → t.status = s.status ∧ t.stage = s.stage)

/-- R184, R31. STATUS and STAGE are written only by the step that ends an operation, and that step records them in its one `Done`;
`rst` apart. -/
def Obligations.StatusWrittenOnlyAtCompletion : Prop :=
  ∀ s t : State, step s = .next t → (∀ b rest, s.inputs ≠ .rst b :: rest) →
    (t.status = s.status ∧ t.stage = s.stage ∧ doneCount t.trace = doneCount s.trace ∧ (t.seq = s.seq ∨ t.seq ≠ .idle)) ∨
    (t.seq = .idle ∧ ∃ new, t.trace = s.trace ++ new ++ [.done t.status t.stage] ∧ doneCount new = 0)

/-- R26, R27, R185. DATA_OUT and TEMP_OUT are written only by a step that ends an operation OK; `rst` apart. -/
def Obligations.DataWrittenOnlyOnSuccess : Prop :=
  ∀ s t : State, step s = .next t → (∀ b rest, s.inputs ≠ .rst b :: rest) → (t.seq ≠ .idle ∨ t.status ≠ .ok) →
    t.dataOut = s.dataOut ∧ t.tempOut = s.tempOut

/-- R36. ADDR_SEL_Q is loaded by `rst` and by nothing else; that the event `rst` carries the strap's level is the model's choice (log
entry 6). R20. No step changes the parameters; that they are a field of the state is the model's choice (log entry 1). -/
def Obligations.AddressLoadedOnlyByRst : Prop :=
  ∀ s t : State, step s = .next t →
    t.params = s.params ∧
    (∀ b rest, s.inputs = .rst b :: rest → t.addrSelQ = b) ∧
    ((∀ b rest, s.inputs ≠ .rst b :: rest) → t.addrSelQ = s.addrSelQ)

/-- R34. MEAS after a step is what the table of its writes says; `rst` apart. -/
def Obligations.MeasFollowsItsTable : Prop :=
  ∀ (s t : State) (e : InputEvent) (rest : List InputEvent), s.inputs = e :: rest → (∀ b, e ≠ .rst b) → step s = .next t →
    t.meas = measAfter s e

/-- R33. ERR_LATCH is written only where a delay follows a write, with that write's result; `rst` apart. -/
def Obligations.ErrLatchHoldsWriteResult : Prop :=
  ∀ (s t : State) (e : InputEvent) (rest : List InputEvent), s.inputs = e :: rest → (∀ b, e ≠ .rst b) → step s = .next t →
    t.errLatch = errLatchAfter s e

/-- R159. No rule reads MEAS: with another value of it the step is the same, MEAS itself apart. The statement compares two runs: after
`rst` and after a failed receive the unspecified registers agree only because both states have the same draw counter, which is the
model's choice (log entry 2) and no part of R159. -/
def Obligations.MeasNeverRead : Prop :=
  ∀ (s : State) (b : Bool), agreeUpToMeas (step s) (step { s with meas := b })

/-- R23. TXBUF is written only by ENCODE and by a step that transmits it; `rst` apart. -/
def Obligations.TxBufWrittenOnlyByEncodeAndTransmit : Prop :=
  ∀ s t : State, step s = .next t → (∀ b rest, s.inputs ≠ .rst b :: rest) →
    t.txBuf = s.txBuf ∨ (∃ w rest, s.inputs = .offer w :: rest ∧ (decode w).op = .encode) ∨
    (∃ pre a, t.trace = s.trace ++ pre ++ [.transmit a t.txBuf])

/-- R141, R61, R62, R72. What a step transmits goes to the bus address and is the new TXBUF, the encoding of the new CMD_REG; what it
asks for is three bytes from the bus address. -/
def Obligations.BusRequestsCarryAddressAndBuffer : Prop :=
  ∀ (s t : State) (new : List Event), step s = .next t → t.trace = s.trace ++ new →
    (∀ a b, Event.transmit a b ∈ new → a = busAddr s ∧ b = t.txBuf ∧ b = encodeCmd t.cmdReg) ∧
    (∀ a n, Event.receive a n ∈ new → a = busAddr s ∧ n = 3)

/-- R11, R74, R79. A step takes the next input event, if there is one, off the list, and only adds to the trace. The model's choices
here: with no input event the step takes none and changes nothing (log entry 3); an offer made while BUSY is taken off the list too
(log entry 5); the trace is a field of the state (log entry 7). -/
def Obligations.StepConsumesInputAndExtendsTrace : Prop :=
  ∀ s t : State, step s = .next t → t.inputs = s.inputs.tail ∧ ∃ new, t.trace = s.trace ++ new

/-- R70. The bus address: bit 7 zero, bits 6 to 1 the parameter's, bit 0 ADDR_SEL_Q. -/
def Obligations.BusAddressBits : Prop :=
  ∀ s : State, busAddr s = 0#1 ++ (s.params.devAddrHigh ++ s.addrSelQ)

/-- R35, R30, R28, R31, R32. What every output port shows: READY, BUSY and CRC_OK; the byte buffers; STATUS, STAGE and SEQ by the
codes of their tables; MEAS; the registers that are shown as they are; and DEV_ADDR. That SEQ, CMD_REG, ERR_LATCH, ADDR_SEL_Q and
DEV_ADDR have ports, though R35 has no row for them, is the model's inference (log entry 13). -/
def Obligations.PortsShowRegisters : Prop :=
  ∀ s : State, ((outputs s).ready = 1#1 ↔ s.seq = .idle) ∧ ((outputs s).busy = 1#1 ↔ s.seq ≠ .idle) ∧
    ((outputs s).crcOk = 1#1 ↔ s.crcReg = s.rxBuf.b2) ∧ (outputs s).txBuf = decodeData s.txBuf.b0 s.txBuf.b1 ∧
    (outputs s).rxBuf.extractLsb' 16 8 = s.rxBuf.b0 ∧ (outputs s).rxBuf.extractLsb' 8 8 = s.rxBuf.b1 ∧
    (outputs s).rxBuf.extractLsb' 0 8 = s.rxBuf.b2 ∧
    ((outputs s).status = 0#3 ↔ s.status = .ok) ∧ ((outputs s).status = 1#3 ↔ s.status = .transportError) ∧
    ((outputs s).status = 2#3 ↔ s.status = .checksumMismatch) ∧ ((outputs s).status = 3#3 ↔ s.status = .illegalOp) ∧
    ((outputs s).stage = 0#2 ↔ s.stage = .none) ∧ ((outputs s).stage = 1#2 ↔ s.stage = .start) ∧
    ((outputs s).stage = 2#2 ↔ s.stage = .fetch) ∧
    ((outputs s).seq = 0#4 ↔ s.seq = .idle) ∧ ((outputs s).seq = 1#4 ↔ s.seq = .wcTx) ∧
    ((outputs s).seq = 2#4 ↔ s.seq = .rcTx) ∧ ((outputs s).seq = 3#4 ↔ s.seq = .rcRx) ∧
    ((outputs s).seq = 4#4 ↔ s.seq = .smTx) ∧ ((outputs s).seq = 5#4 ↔ s.seq = .smDly) ∧
    ((outputs s).seq = 6#4 ↔ s.seq = .spTx) ∧ ((outputs s).seq = 7#4 ↔ s.seq = .spDly) ∧
    ((outputs s).seq = 8#4 ↔ s.seq = .rsDly1) ∧ ((outputs s).seq = 9#4 ↔ s.seq = .rsDly2) ∧
    ((outputs s).seq = 10#4 ↔ s.seq = .rtTx1) ∧ ((outputs s).seq = 11#4 ↔ s.seq = .rtDly) ∧
    ((outputs s).seq = 12#4 ↔ s.seq = .rtTx2) ∧ ((outputs s).seq = 13#4 ↔ s.seq = .rtRx) ∧
    ((outputs s).meas = 1#1 ↔ s.meas = true) ∧ ((outputs s).errLatch = 1#1 ↔ s.errLatch = true) ∧
    (outputs s).dataOut = s.dataOut ∧ (outputs s).tempOut = s.tempOut ∧ (outputs s).crcReg = s.crcReg ∧
    (outputs s).cmdReg = s.cmdReg ∧ (outputs s).addrSelQ = s.addrSelQ ∧
    (outputs s).devAddr = s.params.devAddrHigh ++ s.addrSelQ

/-! ### The checksum, the codec, the converter -/

/-- R123. The golden vector, with the register after each step (the steps "derived from rule R120 by the spec"). -/
def Obligations.GoldenVector : Prop :=
  0xFF#8 ^^^ 0xBE#8 = 0x41#8 ∧
  (List.range 8).map (fun k => bitstep^[k + 1] 0x41#8) =
    [0x82#8, 0x35#8, 0x6A#8, 0xD4#8, 0x99#8, 0x03#8, 0x06#8, 0x0C#8] ∧
  0x0C#8 ^^^ 0xEF#8 = 0xE3#8 ∧
  (List.range 8).map (fun k => bitstep^[k + 1] 0xE3#8) =
    [0xF7#8, 0xDF#8, 0x8F#8, 0x2F#8, 0x5E#8, 0xBC#8, 0x49#8, 0x92#8] ∧
  crc8 0xBE#8 0xEF#8 = 0x92#8

/-- R120. The byte-wise checksum is the bit-serial one: sixteen message bits, most significant first, each fed into the register's
top bit. -/
def Obligations.ChecksumIsBitSerial : Prop :=
  ∀ b0 b1 : Byte, crc8 b0 b1 =
    (List.range 16).foldl
      (fun (r : Byte) k => if r.msb != (b0 ++ b1).getMsbD k then (r <<< 1) ^^^ 0x31#8 else r <<< 1) 0xFF#8

/-- R124 ("derived: from rule R120"). With one data byte fixed the checksum is a bijection of the other, so a change of exactly one data byte is always seen. -/
def Obligations.ChecksumSeesOneByteChanges : Prop :=
  (∀ b0 c : Byte, ∃ b1, crc8 b0 b1 = c ∧ ∀ b1', crc8 b0 b1' = c → b1' = b1) ∧
  (∀ b1 c : Byte, ∃ b0, crc8 b0 b1 = c ∧ ∀ b0', crc8 b0' b1 = c → b0' = b0)

/-- R124 ("derived: from rule R120"). The checksum is affine over exclusive OR. -/
def Obligations.ChecksumIsAffine : Prop :=
  crc8 0#8 0#8 = 0x81#8 ∧
  ∀ a0 a1 c0 c1 : Byte, crc8 (a0 ^^^ c0) (a1 ^^^ c1) = crc8 a0 a1 ^^^ crc8 c0 c1 ^^^ crc8 0#8 0#8

/-- R135 (the converse "derived: from rules R130 and R131"). The codec's round trips, as functions and as the operations ENCODE and
DECODE. -/
def Obligations.CodecRoundTrip : Prop :=
  (∀ c : Half, decodeData (encodeCmd c).b0 (encodeCmd c).b1 = c) ∧
  (∀ b0 b1 : Byte, encodeCmd (decodeData b0 b1) = ⟨b0, b1⟩) ∧
  (∀ (c : Half) (s : State), s.seq = .idle → ∃ t u, exec (.encode c) s = .next t ∧
    exec (.decode t.txBuf.b0 t.txBuf.b1) t = .next u ∧ u.dataOut = c)

/-- R170. The fixed-point function, as floor of an exact rational, and its range. -/
def Obligations.ScaleIsFloorOfExactQuotient : Prop :=
  ∀ raw : Half, (scale raw).toInt = ⌊(175 * raw.toNat * 2 ^ 16 / 65535 : ℚ)⌋ - 45 * 2 ^ 16 ∧
    -2949120 ≤ (scale raw).toInt ∧ (scale raw).toInt ≤ 8519680

/-- R171. The exact map: the end points, strict growth, and the bounds. -/
def Obligations.ExactTemperatureMap : Prop :=
  exactTemp 0#16 = -45 ∧ exactTemp 0xFFFF#16 = 130 ∧
  (∀ a b : Half, a.toNat < b.toNat → exactTemp a < exactTemp b) ∧
  (∀ raw : Half, exactTemp raw = -45 + 175 * (raw.toNat : ℚ) / 65535 ∧ -45 ≤ exactTemp raw ∧ exactTemp raw ≤ 130)

/-- R173 ("all derived by the spec from rules R170 and R171"). The laws of `scale`: exact end points; an error below one unit and never above the exact value; strictly increasing in steps
of 175 or 176; negative exactly up to raw = 16851, and never zero; whole degrees where `175 * raw` is a multiple of 65535; no step
overflows. -/
def Obligations.ScaleLaws : Prop :=
  (scale 0#16).toInt = -45 * 65536 ∧ (scale 0xFFFF#16).toInt = 130 * 65536 ∧
  (∀ raw : Half, 0 ≤ exactTemp raw - ((scale raw).toInt : ℚ) / 65536 ∧
    exactTemp raw - ((scale raw).toInt : ℚ) / 65536 < 1 / 2 ^ 16) ∧
  (∀ a b : Half, a.toNat < b.toNat → (scale a).toInt < (scale b).toInt) ∧
  (∀ raw : Half, raw ≠ 0xFFFF#16 →
    (scale (raw + 1#16)).toInt - (scale raw).toInt = 175 ∨ (scale (raw + 1#16)).toInt - (scale raw).toInt = 176) ∧
  (∀ raw : Half, ((scale raw).toInt < 0 ↔ raw.toNat ≤ 16851) ∧ (scale raw).toInt ≠ 0) ∧ (scale 16852#16).toInt = 25 ∧
  (∀ raw : Half, 65535 ∣ 175 * raw.toNat → (65536 : Int) ∣ (scale raw).toInt) ∧ (scale 0x6666#16).toInt = 25 * 65536 ∧
  ∀ raw : Half, 175 * raw.toNat * 2 ^ 16 ≤ 751607808000 ∧ 175 * raw.toNat * 2 ^ 16 < 2 ^ 40 ∧
    175 * raw.toNat * 2 ^ 16 / 65535 < 2 ^ 24

/-! ### The registers at the ports -/

/-- R21. Every register is readable at the output ports: states that show the same there have the same registers. That the registers
without a row in R35 have ports of their own is the model's inference (log entry 13). -/
def Obligations.PortsDetermineRegisters : Prop :=
  ∀ s t : State, outputs s = outputs t →
    s.seq = t.seq ∧ s.cmdReg = t.cmdReg ∧ s.txBuf = t.txBuf ∧ s.rxBuf = t.rxBuf ∧ s.crcReg = t.crcReg ∧ s.dataOut = t.dataOut ∧
    s.tempOut = t.tempOut ∧ s.status = t.status ∧ s.stage = t.stage ∧ s.errLatch = t.errLatch ∧ s.meas = t.meas ∧
    s.addrSelQ = t.addrSelQ
end

