-- ==== Sys2Proof/Laws/CrcUnit.lean ====
section
/-! SUPPORT. The checksum engine: the bit-step is linear over exclusive OR and injective, so the byte-step is too (spec 40_checksum.md R124). -/

namespace Sys2Proof.Machine

/-- A bit-step distributes over exclusive OR. -/
theorem bitstep_xor (a b : Byte) : bitstep (a ^^^ b) = bitstep a ^^^ bitstep b := by
  unfold bitstep
  cases ha : a.msb <;> cases hb : b.msb <;> simp [BitVec.msb_xor, ha, hb, BitVec.shiftLeft_xor_distrib]
  · ac_rfl
  · ac_rfl
  · rw [show a <<< 1 ^^^ crcPoly ^^^ (b <<< 1 ^^^ crcPoly) = a <<< 1 ^^^ b <<< 1 ^^^ (crcPoly ^^^ crcPoly) by ac_rfl]
    simp

/-- Only 0 goes to 0. -/
theorem bitstep_eq_zero : ∀ a : Byte, bitstep a = 0#8 → a = 0#8 := by decide

/-- Different registers go to different registers. -/
theorem bitstep_injective {a b : Byte} (h : bitstep a = bitstep b) : a = b := by
  have hz : bitstep (a ^^^ b) = 0#8 := by rw [bitstep_xor, h, BitVec.xor_self]
  have := bitstep_eq_zero _ hz
  simpa using this

/-- The byte-step is eight bit-steps of the exclusive OR of its arguments. -/
theorem bytestep_eq (r b : Byte) : bytestep r b = bitstep^[8] (r ^^^ b) := rfl

/-- A byte-step distributes over exclusive OR of both arguments. -/
theorem bytestep_xor (r r' b b' : Byte) : bytestep (r ^^^ r') (b ^^^ b') = bytestep r b ^^^ bytestep r' b' := by
  unfold bytestep
  simp only [← bitstep_xor]
  congr 8
  ac_rfl

end Sys2Proof.Machine
end

