-- ==== Sys2Proof/Laws/Decode.lean ====
section
/-! SUPPORT. The fields of an encoded instruction, and the operation of a decoded word. -/

namespace Sys2Proof

/-- The OP field of an encoded instruction is its operation's code. -/
theorem opField_encode (i : Instr) : opField (encode i) = i.op.code :=
  BitVec.extractLsb'_append_eq_left

/-- The ARG field of an encoded instruction. -/
theorem argField_encode (i : Instr) : argField (encode i) = encodeArg i :=
  BitVec.extractLsb'_append_eq_right

/-- The OP field of a word put together from its fields. -/
theorem opField_append (c : BitVec 4) (a : Arg) : opField (c ++ a) = c :=
  BitVec.extractLsb'_append_eq_left

/-- The ARG field of a word put together from its fields. -/
theorem argField_append (c : BitVec 4) (a : Arg) : argField (c ++ a) = a :=
  BitVec.extractLsb'_append_eq_right

/-- A request word is its two fields put together (R90). -/
theorem opField_append_argField (w : Req) : opField w ++ argField w = w :=
  BitVec.extractLsb'_append_extractLsb' (w := 4) (len := 24)

/-- The code of an operation selects it. -/
theorem opOfCode_code (o : Op) : opOfCode o.code = o := by cases o <;> rfl

/-- Every OP value is the code of the operation it selects. -/
theorem code_opOfCode : ∀ c : BitVec 4, (opOfCode c).code = c := by decide

/-- The fields of an ARG put together from a byte and a half-word. -/
theorem argHalf_append (a : Byte) (c : Half) : argHalf (a ++ c) = c :=
  BitVec.extractLsb'_append_eq_right

theorem argHigh_append (a : Byte) (c : Half) : argHigh (a ++ c) = a :=
  BitVec.extractLsb'_append_eq_left

/-- The fields of an ARG put together from three bytes. -/
theorem argMid_append (a b k : Byte) : argMid (a ++ (b ++ k : Half)) = b := by
  unfold argMid
  rw [BitVec.extractLsb'_append_eq_of_add_le (v := 8) (w := 16) (by omega)]
  exact BitVec.extractLsb'_append_eq_left

theorem argLow_append (a b k : Byte) : argLow (a ++ (b ++ k : Half)) = k := by
  unfold argLow
  rw [BitVec.extractLsb'_append_eq_of_add_le (v := 8) (w := 16) (by omega)]
  exact BitVec.extractLsb'_append_eq_right

/-- A request word masked, field by field. -/
theorem append_and (c m : BitVec 4) (a b : Arg) : ((c ++ a : Req) &&& (m ++ b)) = (c &&& m) ++ (a &&& b) :=
  BitVec.and_append

/-- Decoding a word put together from its fields. -/
theorem decode_append (c : BitVec 4) (a : Arg) : decode (c ++ a) = withArg (opOfCode c) a := by
  unfold decode
  rw [opField_append, argField_append]

/-- The operation of a decoded word. -/
theorem decode_op (w : Req) : (decode w).op = opOfCode (opField w) := by
  unfold decode
  cases opOfCode (opField w) <;> rfl

/-- A numeral is a request word exactly when it fits 28 bits. -/
theorem decodeTableWord_of_lt (nbits : Nat) {w : Nat} (h : w < 2 ^ 28) :
    decodeTableWord nbits w = some (decode (BitVec.ofNat 28 w)) := by
  simp only [decodeTableWord, decodeWord, reqWordOk, h, decide_true, if_true]

/-- A wider number is refused. -/
theorem decodeTableWord_of_ge (nbits : Nat) {w : Nat} (h : 2 ^ 28 ≤ w) : decodeTableWord nbits w = none := by
  have h' : ¬ w < 268435456 := by omega
  simp [decodeTableWord, decodeWord, reqWordOk, h']

end Sys2Proof
end

