-- ==== Sys2Proof/Laws/State.lean ====
section
/-! SUPPORT. What each shared operation does to each field of the state, one lemma per field, and to the values computed from the state. -/

namespace Sys2Proof.Machine

/-! ### emit -/

@[simp] theorem emit_seq (e : Event) (s : State) : (emit e s).seq = s.seq := rfl
@[simp] theorem emit_cmdReg (e : Event) (s : State) : (emit e s).cmdReg = s.cmdReg := rfl
@[simp] theorem emit_txBuf (e : Event) (s : State) : (emit e s).txBuf = s.txBuf := rfl
@[simp] theorem emit_rxBuf (e : Event) (s : State) : (emit e s).rxBuf = s.rxBuf := rfl
@[simp] theorem emit_crcReg (e : Event) (s : State) : (emit e s).crcReg = s.crcReg := rfl
@[simp] theorem emit_dataOut (e : Event) (s : State) : (emit e s).dataOut = s.dataOut := rfl
@[simp] theorem emit_tempOut (e : Event) (s : State) : (emit e s).tempOut = s.tempOut := rfl
@[simp] theorem emit_status (e : Event) (s : State) : (emit e s).status = s.status := rfl
@[simp] theorem emit_stage (e : Event) (s : State) : (emit e s).stage = s.stage := rfl
@[simp] theorem emit_errLatch (e : Event) (s : State) : (emit e s).errLatch = s.errLatch := rfl
@[simp] theorem emit_meas (e : Event) (s : State) : (emit e s).meas = s.meas := rfl
@[simp] theorem emit_addrSelQ (e : Event) (s : State) : (emit e s).addrSelQ = s.addrSelQ := rfl
@[simp] theorem emit_params (e : Event) (s : State) : (emit e s).params = s.params := rfl
@[simp] theorem emit_inputs (e : Event) (s : State) : (emit e s).inputs = s.inputs := rfl
@[simp] theorem emit_trace (e : Event) (s : State) : (emit e s).trace = s.trace ++ [e] := rfl
@[simp] theorem emit_draws (e : Event) (s : State) : (emit e s).draws = s.draws := rfl
@[simp] theorem emit_busAddr (e : Event) (s : State) : busAddr (emit e s) = busAddr s := rfl

/-! ### goto -/

@[simp] theorem goto_seq (q : Seq) (s : State) : (goto q s).seq = q := rfl
@[simp] theorem goto_cmdReg (q : Seq) (s : State) : (goto q s).cmdReg = s.cmdReg := rfl
@[simp] theorem goto_txBuf (q : Seq) (s : State) : (goto q s).txBuf = s.txBuf := rfl
@[simp] theorem goto_rxBuf (q : Seq) (s : State) : (goto q s).rxBuf = s.rxBuf := rfl
@[simp] theorem goto_crcReg (q : Seq) (s : State) : (goto q s).crcReg = s.crcReg := rfl
@[simp] theorem goto_dataOut (q : Seq) (s : State) : (goto q s).dataOut = s.dataOut := rfl
@[simp] theorem goto_tempOut (q : Seq) (s : State) : (goto q s).tempOut = s.tempOut := rfl
@[simp] theorem goto_status (q : Seq) (s : State) : (goto q s).status = s.status := rfl
@[simp] theorem goto_stage (q : Seq) (s : State) : (goto q s).stage = s.stage := rfl
@[simp] theorem goto_errLatch (q : Seq) (s : State) : (goto q s).errLatch = s.errLatch := rfl
@[simp] theorem goto_meas (q : Seq) (s : State) : (goto q s).meas = s.meas := rfl
@[simp] theorem goto_addrSelQ (q : Seq) (s : State) : (goto q s).addrSelQ = s.addrSelQ := rfl
@[simp] theorem goto_params (q : Seq) (s : State) : (goto q s).params = s.params := rfl
@[simp] theorem goto_inputs (q : Seq) (s : State) : (goto q s).inputs = s.inputs := rfl
@[simp] theorem goto_trace (q : Seq) (s : State) : (goto q s).trace = s.trace := rfl
@[simp] theorem goto_draws (q : Seq) (s : State) : (goto q s).draws = s.draws := rfl
@[simp] theorem goto_busAddr (q : Seq) (s : State) : busAddr (goto q s) = busAddr s := rfl

/-! ### complete -/

@[simp] theorem complete_seq (st : Status) (sg : Stage) (s : State) : (complete st sg s).seq = .idle := rfl
@[simp] theorem complete_cmdReg (st : Status) (sg : Stage) (s : State) : (complete st sg s).cmdReg = s.cmdReg := rfl
@[simp] theorem complete_txBuf (st : Status) (sg : Stage) (s : State) : (complete st sg s).txBuf = s.txBuf := rfl
@[simp] theorem complete_rxBuf (st : Status) (sg : Stage) (s : State) : (complete st sg s).rxBuf = s.rxBuf := rfl
@[simp] theorem complete_crcReg (st : Status) (sg : Stage) (s : State) : (complete st sg s).crcReg = s.crcReg := rfl
@[simp] theorem complete_dataOut (st : Status) (sg : Stage) (s : State) : (complete st sg s).dataOut = s.dataOut := rfl
@[simp] theorem complete_tempOut (st : Status) (sg : Stage) (s : State) : (complete st sg s).tempOut = s.tempOut := rfl
@[simp] theorem complete_status (st : Status) (sg : Stage) (s : State) : (complete st sg s).status = st := rfl
@[simp] theorem complete_stage (st : Status) (sg : Stage) (s : State) : (complete st sg s).stage = sg := rfl
@[simp] theorem complete_errLatch (st : Status) (sg : Stage) (s : State) : (complete st sg s).errLatch = s.errLatch := rfl
@[simp] theorem complete_meas (st : Status) (sg : Stage) (s : State) : (complete st sg s).meas = s.meas := rfl
@[simp] theorem complete_addrSelQ (st : Status) (sg : Stage) (s : State) : (complete st sg s).addrSelQ = s.addrSelQ := rfl
@[simp] theorem complete_params (st : Status) (sg : Stage) (s : State) : (complete st sg s).params = s.params := rfl
@[simp] theorem complete_inputs (st : Status) (sg : Stage) (s : State) : (complete st sg s).inputs = s.inputs := rfl
@[simp] theorem complete_trace (st : Status) (sg : Stage) (s : State) : (complete st sg s).trace = s.trace ++ [.done st sg] := rfl
@[simp] theorem complete_draws (st : Status) (sg : Stage) (s : State) : (complete st sg s).draws = s.draws := rfl
@[simp] theorem complete_busAddr (st : Status) (sg : Stage) (s : State) : busAddr (complete st sg s) = busAddr s := rfl

/-! ### send -/

@[simp] theorem send_seq (c : Half) (s : State) : (send c s).seq = s.seq := rfl
@[simp] theorem send_cmdReg (c : Half) (s : State) : (send c s).cmdReg = c := rfl
@[simp] theorem send_txBuf (c : Half) (s : State) : (send c s).txBuf = encodeCmd c := rfl
@[simp] theorem send_rxBuf (c : Half) (s : State) : (send c s).rxBuf = s.rxBuf := rfl
@[simp] theorem send_crcReg (c : Half) (s : State) : (send c s).crcReg = s.crcReg := rfl
@[simp] theorem send_dataOut (c : Half) (s : State) : (send c s).dataOut = s.dataOut := rfl
@[simp] theorem send_tempOut (c : Half) (s : State) : (send c s).tempOut = s.tempOut := rfl
@[simp] theorem send_status (c : Half) (s : State) : (send c s).status = s.status := rfl
@[simp] theorem send_stage (c : Half) (s : State) : (send c s).stage = s.stage := rfl
@[simp] theorem send_errLatch (c : Half) (s : State) : (send c s).errLatch = s.errLatch := rfl
@[simp] theorem send_meas (c : Half) (s : State) : (send c s).meas = s.meas := rfl
@[simp] theorem send_addrSelQ (c : Half) (s : State) : (send c s).addrSelQ = s.addrSelQ := rfl
@[simp] theorem send_params (c : Half) (s : State) : (send c s).params = s.params := rfl
@[simp] theorem send_inputs (c : Half) (s : State) : (send c s).inputs = s.inputs := rfl
@[simp] theorem send_trace (c : Half) (s : State) : (send c s).trace = s.trace ++ [.transmit (busAddr s) (encodeCmd c)] := rfl
@[simp] theorem send_draws (c : Half) (s : State) : (send c s).draws = s.draws := rfl
@[simp] theorem send_busAddr (c : Half) (s : State) : busAddr (send c s) = busAddr s := rfl

/-! ### requestFrame -/

@[simp] theorem requestFrame_seq (s : State) : (requestFrame s).seq = s.seq := rfl
@[simp] theorem requestFrame_cmdReg (s : State) : (requestFrame s).cmdReg = s.cmdReg := rfl
@[simp] theorem requestFrame_txBuf (s : State) : (requestFrame s).txBuf = s.txBuf := rfl
@[simp] theorem requestFrame_rxBuf (s : State) : (requestFrame s).rxBuf = s.rxBuf := rfl
@[simp] theorem requestFrame_crcReg (s : State) : (requestFrame s).crcReg = s.crcReg := rfl
@[simp] theorem requestFrame_dataOut (s : State) : (requestFrame s).dataOut = s.dataOut := rfl
@[simp] theorem requestFrame_tempOut (s : State) : (requestFrame s).tempOut = s.tempOut := rfl
@[simp] theorem requestFrame_status (s : State) : (requestFrame s).status = s.status := rfl
@[simp] theorem requestFrame_stage (s : State) : (requestFrame s).stage = s.stage := rfl
@[simp] theorem requestFrame_errLatch (s : State) : (requestFrame s).errLatch = s.errLatch := rfl
@[simp] theorem requestFrame_meas (s : State) : (requestFrame s).meas = s.meas := rfl
@[simp] theorem requestFrame_addrSelQ (s : State) : (requestFrame s).addrSelQ = s.addrSelQ := rfl
@[simp] theorem requestFrame_params (s : State) : (requestFrame s).params = s.params := rfl
@[simp] theorem requestFrame_inputs (s : State) : (requestFrame s).inputs = s.inputs := rfl
@[simp] theorem requestFrame_trace (s : State) : (requestFrame s).trace = s.trace ++ [.receive (busAddr s) frameLen] := rfl
@[simp] theorem requestFrame_draws (s : State) : (requestFrame s).draws = s.draws := rfl
@[simp] theorem requestFrame_busAddr (s : State) : busAddr (requestFrame s) = busAddr s := rfl

/-! ### setPin -/

@[simp] theorem setPin_seq (l : PinLevel) (s : State) : (setPin l s).seq = s.seq := rfl
@[simp] theorem setPin_cmdReg (l : PinLevel) (s : State) : (setPin l s).cmdReg = s.cmdReg := rfl
@[simp] theorem setPin_txBuf (l : PinLevel) (s : State) : (setPin l s).txBuf = s.txBuf := rfl
@[simp] theorem setPin_rxBuf (l : PinLevel) (s : State) : (setPin l s).rxBuf = s.rxBuf := rfl
@[simp] theorem setPin_crcReg (l : PinLevel) (s : State) : (setPin l s).crcReg = s.crcReg := rfl
@[simp] theorem setPin_dataOut (l : PinLevel) (s : State) : (setPin l s).dataOut = s.dataOut := rfl
@[simp] theorem setPin_tempOut (l : PinLevel) (s : State) : (setPin l s).tempOut = s.tempOut := rfl
@[simp] theorem setPin_status (l : PinLevel) (s : State) : (setPin l s).status = s.status := rfl
@[simp] theorem setPin_stage (l : PinLevel) (s : State) : (setPin l s).stage = s.stage := rfl
@[simp] theorem setPin_errLatch (l : PinLevel) (s : State) : (setPin l s).errLatch = s.errLatch := rfl
@[simp] theorem setPin_meas (l : PinLevel) (s : State) : (setPin l s).meas = s.meas := rfl
@[simp] theorem setPin_addrSelQ (l : PinLevel) (s : State) : (setPin l s).addrSelQ = s.addrSelQ := rfl
@[simp] theorem setPin_params (l : PinLevel) (s : State) : (setPin l s).params = s.params := rfl
@[simp] theorem setPin_inputs (l : PinLevel) (s : State) : (setPin l s).inputs = s.inputs := rfl
@[simp] theorem setPin_trace (l : PinLevel) (s : State) : (setPin l s).trace = s.trace ++ [.setPin s.params.resetPin l] := rfl
@[simp] theorem setPin_draws (l : PinLevel) (s : State) : (setPin l s).draws = s.draws := rfl
@[simp] theorem setPin_busAddr (l : PinLevel) (s : State) : busAddr (setPin l s) = busAddr s := rfl

/-! ### startDelay -/

@[simp] theorem startDelay_seq (n : Nat) (s : State) : (startDelay n s).seq = s.seq := rfl
@[simp] theorem startDelay_cmdReg (n : Nat) (s : State) : (startDelay n s).cmdReg = s.cmdReg := rfl
@[simp] theorem startDelay_txBuf (n : Nat) (s : State) : (startDelay n s).txBuf = s.txBuf := rfl
@[simp] theorem startDelay_rxBuf (n : Nat) (s : State) : (startDelay n s).rxBuf = s.rxBuf := rfl
@[simp] theorem startDelay_crcReg (n : Nat) (s : State) : (startDelay n s).crcReg = s.crcReg := rfl
@[simp] theorem startDelay_dataOut (n : Nat) (s : State) : (startDelay n s).dataOut = s.dataOut := rfl
@[simp] theorem startDelay_tempOut (n : Nat) (s : State) : (startDelay n s).tempOut = s.tempOut := rfl
@[simp] theorem startDelay_status (n : Nat) (s : State) : (startDelay n s).status = s.status := rfl
@[simp] theorem startDelay_stage (n : Nat) (s : State) : (startDelay n s).stage = s.stage := rfl
@[simp] theorem startDelay_errLatch (n : Nat) (s : State) : (startDelay n s).errLatch = s.errLatch := rfl
@[simp] theorem startDelay_meas (n : Nat) (s : State) : (startDelay n s).meas = s.meas := rfl
@[simp] theorem startDelay_addrSelQ (n : Nat) (s : State) : (startDelay n s).addrSelQ = s.addrSelQ := rfl
@[simp] theorem startDelay_params (n : Nat) (s : State) : (startDelay n s).params = s.params := rfl
@[simp] theorem startDelay_inputs (n : Nat) (s : State) : (startDelay n s).inputs = s.inputs := rfl
@[simp] theorem startDelay_trace (n : Nat) (s : State) : (startDelay n s).trace = s.trace ++ [.delay n] := rfl
@[simp] theorem startDelay_draws (n : Nat) (s : State) : (startDelay n s).draws = s.draws := rfl
@[simp] theorem startDelay_busAddr (n : Nat) (s : State) : busAddr (startDelay n s) = busAddr s := rfl

/-! ### latchWrite -/

@[simp] theorem latchWrite_seq (r : TxAnswer) (s : State) : (latchWrite r s).seq = s.seq := rfl
@[simp] theorem latchWrite_cmdReg (r : TxAnswer) (s : State) : (latchWrite r s).cmdReg = s.cmdReg := rfl
@[simp] theorem latchWrite_txBuf (r : TxAnswer) (s : State) : (latchWrite r s).txBuf = s.txBuf := rfl
@[simp] theorem latchWrite_rxBuf (r : TxAnswer) (s : State) : (latchWrite r s).rxBuf = s.rxBuf := rfl
@[simp] theorem latchWrite_crcReg (r : TxAnswer) (s : State) : (latchWrite r s).crcReg = s.crcReg := rfl
@[simp] theorem latchWrite_dataOut (r : TxAnswer) (s : State) : (latchWrite r s).dataOut = s.dataOut := rfl
@[simp] theorem latchWrite_tempOut (r : TxAnswer) (s : State) : (latchWrite r s).tempOut = s.tempOut := rfl
@[simp] theorem latchWrite_status (r : TxAnswer) (s : State) : (latchWrite r s).status = s.status := rfl
@[simp] theorem latchWrite_stage (r : TxAnswer) (s : State) : (latchWrite r s).stage = s.stage := rfl
@[simp] theorem latchWrite_errLatch (r : TxAnswer) (s : State) : (latchWrite r s).errLatch = decide (r = .fail) := rfl
@[simp] theorem latchWrite_meas (r : TxAnswer) (s : State) : (latchWrite r s).meas = s.meas := rfl
@[simp] theorem latchWrite_addrSelQ (r : TxAnswer) (s : State) : (latchWrite r s).addrSelQ = s.addrSelQ := rfl
@[simp] theorem latchWrite_params (r : TxAnswer) (s : State) : (latchWrite r s).params = s.params := rfl
@[simp] theorem latchWrite_inputs (r : TxAnswer) (s : State) : (latchWrite r s).inputs = s.inputs := rfl
@[simp] theorem latchWrite_trace (r : TxAnswer) (s : State) : (latchWrite r s).trace = s.trace := rfl
@[simp] theorem latchWrite_draws (r : TxAnswer) (s : State) : (latchWrite r s).draws = s.draws := rfl
@[simp] theorem latchWrite_busAddr (r : TxAnswer) (s : State) : busAddr (latchWrite r s) = busAddr s := rfl

/-! ### setMeas -/

@[simp] theorem setMeas_seq (b : Bool) (s : State) : (setMeas b s).seq = s.seq := rfl
@[simp] theorem setMeas_cmdReg (b : Bool) (s : State) : (setMeas b s).cmdReg = s.cmdReg := rfl
@[simp] theorem setMeas_txBuf (b : Bool) (s : State) : (setMeas b s).txBuf = s.txBuf := rfl
@[simp] theorem setMeas_rxBuf (b : Bool) (s : State) : (setMeas b s).rxBuf = s.rxBuf := rfl
@[simp] theorem setMeas_crcReg (b : Bool) (s : State) : (setMeas b s).crcReg = s.crcReg := rfl
@[simp] theorem setMeas_dataOut (b : Bool) (s : State) : (setMeas b s).dataOut = s.dataOut := rfl
@[simp] theorem setMeas_tempOut (b : Bool) (s : State) : (setMeas b s).tempOut = s.tempOut := rfl
@[simp] theorem setMeas_status (b : Bool) (s : State) : (setMeas b s).status = s.status := rfl
@[simp] theorem setMeas_stage (b : Bool) (s : State) : (setMeas b s).stage = s.stage := rfl
@[simp] theorem setMeas_errLatch (b : Bool) (s : State) : (setMeas b s).errLatch = s.errLatch := rfl
@[simp] theorem setMeas_meas (b : Bool) (s : State) : (setMeas b s).meas = b := rfl
@[simp] theorem setMeas_addrSelQ (b : Bool) (s : State) : (setMeas b s).addrSelQ = s.addrSelQ := rfl
@[simp] theorem setMeas_params (b : Bool) (s : State) : (setMeas b s).params = s.params := rfl
@[simp] theorem setMeas_inputs (b : Bool) (s : State) : (setMeas b s).inputs = s.inputs := rfl
@[simp] theorem setMeas_trace (b : Bool) (s : State) : (setMeas b s).trace = s.trace := rfl
@[simp] theorem setMeas_draws (b : Bool) (s : State) : (setMeas b s).draws = s.draws := rfl
@[simp] theorem setMeas_busAddr (b : Bool) (s : State) : busAddr (setMeas b s) = busAddr s := rfl

/-! ### writeTxBuf -/

@[simp] theorem writeTxBuf_seq (b : CmdBytes) (s : State) : (writeTxBuf b s).seq = s.seq := rfl
@[simp] theorem writeTxBuf_cmdReg (b : CmdBytes) (s : State) : (writeTxBuf b s).cmdReg = s.cmdReg := rfl
@[simp] theorem writeTxBuf_txBuf (b : CmdBytes) (s : State) : (writeTxBuf b s).txBuf = b := rfl
@[simp] theorem writeTxBuf_rxBuf (b : CmdBytes) (s : State) : (writeTxBuf b s).rxBuf = s.rxBuf := rfl
@[simp] theorem writeTxBuf_crcReg (b : CmdBytes) (s : State) : (writeTxBuf b s).crcReg = s.crcReg := rfl
@[simp] theorem writeTxBuf_dataOut (b : CmdBytes) (s : State) : (writeTxBuf b s).dataOut = s.dataOut := rfl
@[simp] theorem writeTxBuf_tempOut (b : CmdBytes) (s : State) : (writeTxBuf b s).tempOut = s.tempOut := rfl
@[simp] theorem writeTxBuf_status (b : CmdBytes) (s : State) : (writeTxBuf b s).status = s.status := rfl
@[simp] theorem writeTxBuf_stage (b : CmdBytes) (s : State) : (writeTxBuf b s).stage = s.stage := rfl
@[simp] theorem writeTxBuf_errLatch (b : CmdBytes) (s : State) : (writeTxBuf b s).errLatch = s.errLatch := rfl
@[simp] theorem writeTxBuf_meas (b : CmdBytes) (s : State) : (writeTxBuf b s).meas = s.meas := rfl
@[simp] theorem writeTxBuf_addrSelQ (b : CmdBytes) (s : State) : (writeTxBuf b s).addrSelQ = s.addrSelQ := rfl
@[simp] theorem writeTxBuf_params (b : CmdBytes) (s : State) : (writeTxBuf b s).params = s.params := rfl
@[simp] theorem writeTxBuf_inputs (b : CmdBytes) (s : State) : (writeTxBuf b s).inputs = s.inputs := rfl
@[simp] theorem writeTxBuf_trace (b : CmdBytes) (s : State) : (writeTxBuf b s).trace = s.trace := rfl
@[simp] theorem writeTxBuf_draws (b : CmdBytes) (s : State) : (writeTxBuf b s).draws = s.draws := rfl
@[simp] theorem writeTxBuf_busAddr (b : CmdBytes) (s : State) : busAddr (writeTxBuf b s) = busAddr s := rfl

/-! ### writeData -/

@[simp] theorem writeData_seq (w : Half) (s : State) : (writeData w s).seq = s.seq := rfl
@[simp] theorem writeData_cmdReg (w : Half) (s : State) : (writeData w s).cmdReg = s.cmdReg := rfl
@[simp] theorem writeData_txBuf (w : Half) (s : State) : (writeData w s).txBuf = s.txBuf := rfl
@[simp] theorem writeData_rxBuf (w : Half) (s : State) : (writeData w s).rxBuf = s.rxBuf := rfl
@[simp] theorem writeData_crcReg (w : Half) (s : State) : (writeData w s).crcReg = s.crcReg := rfl
@[simp] theorem writeData_dataOut (w : Half) (s : State) : (writeData w s).dataOut = w := rfl
@[simp] theorem writeData_tempOut (w : Half) (s : State) : (writeData w s).tempOut = s.tempOut := rfl
@[simp] theorem writeData_status (w : Half) (s : State) : (writeData w s).status = s.status := rfl
@[simp] theorem writeData_stage (w : Half) (s : State) : (writeData w s).stage = s.stage := rfl
@[simp] theorem writeData_errLatch (w : Half) (s : State) : (writeData w s).errLatch = s.errLatch := rfl
@[simp] theorem writeData_meas (w : Half) (s : State) : (writeData w s).meas = s.meas := rfl
@[simp] theorem writeData_addrSelQ (w : Half) (s : State) : (writeData w s).addrSelQ = s.addrSelQ := rfl
@[simp] theorem writeData_params (w : Half) (s : State) : (writeData w s).params = s.params := rfl
@[simp] theorem writeData_inputs (w : Half) (s : State) : (writeData w s).inputs = s.inputs := rfl
@[simp] theorem writeData_trace (w : Half) (s : State) : (writeData w s).trace = s.trace := rfl
@[simp] theorem writeData_draws (w : Half) (s : State) : (writeData w s).draws = s.draws := rfl
@[simp] theorem writeData_busAddr (w : Half) (s : State) : busAddr (writeData w s) = busAddr s := rfl

/-! ### writeTemp -/

@[simp] theorem writeTemp_seq (v : BitVec 32) (s : State) : (writeTemp v s).seq = s.seq := rfl
@[simp] theorem writeTemp_cmdReg (v : BitVec 32) (s : State) : (writeTemp v s).cmdReg = s.cmdReg := rfl
@[simp] theorem writeTemp_txBuf (v : BitVec 32) (s : State) : (writeTemp v s).txBuf = s.txBuf := rfl
@[simp] theorem writeTemp_rxBuf (v : BitVec 32) (s : State) : (writeTemp v s).rxBuf = s.rxBuf := rfl
@[simp] theorem writeTemp_crcReg (v : BitVec 32) (s : State) : (writeTemp v s).crcReg = s.crcReg := rfl
@[simp] theorem writeTemp_dataOut (v : BitVec 32) (s : State) : (writeTemp v s).dataOut = s.dataOut := rfl
@[simp] theorem writeTemp_tempOut (v : BitVec 32) (s : State) : (writeTemp v s).tempOut = v := rfl
@[simp] theorem writeTemp_status (v : BitVec 32) (s : State) : (writeTemp v s).status = s.status := rfl
@[simp] theorem writeTemp_stage (v : BitVec 32) (s : State) : (writeTemp v s).stage = s.stage := rfl
@[simp] theorem writeTemp_errLatch (v : BitVec 32) (s : State) : (writeTemp v s).errLatch = s.errLatch := rfl
@[simp] theorem writeTemp_meas (v : BitVec 32) (s : State) : (writeTemp v s).meas = s.meas := rfl
@[simp] theorem writeTemp_addrSelQ (v : BitVec 32) (s : State) : (writeTemp v s).addrSelQ = s.addrSelQ := rfl
@[simp] theorem writeTemp_params (v : BitVec 32) (s : State) : (writeTemp v s).params = s.params := rfl
@[simp] theorem writeTemp_inputs (v : BitVec 32) (s : State) : (writeTemp v s).inputs = s.inputs := rfl
@[simp] theorem writeTemp_trace (v : BitVec 32) (s : State) : (writeTemp v s).trace = s.trace := rfl
@[simp] theorem writeTemp_draws (v : BitVec 32) (s : State) : (writeTemp v s).draws = s.draws := rfl
@[simp] theorem writeTemp_busAddr (v : BitVec 32) (s : State) : busAddr (writeTemp v s) = busAddr s := rfl

/-! ### writeCrc -/

@[simp] theorem writeCrc_seq (c : Byte) (s : State) : (writeCrc c s).seq = s.seq := rfl
@[simp] theorem writeCrc_cmdReg (c : Byte) (s : State) : (writeCrc c s).cmdReg = s.cmdReg := rfl
@[simp] theorem writeCrc_txBuf (c : Byte) (s : State) : (writeCrc c s).txBuf = s.txBuf := rfl
@[simp] theorem writeCrc_rxBuf (c : Byte) (s : State) : (writeCrc c s).rxBuf = s.rxBuf := rfl
@[simp] theorem writeCrc_crcReg (c : Byte) (s : State) : (writeCrc c s).crcReg = c := rfl
@[simp] theorem writeCrc_dataOut (c : Byte) (s : State) : (writeCrc c s).dataOut = s.dataOut := rfl
@[simp] theorem writeCrc_tempOut (c : Byte) (s : State) : (writeCrc c s).tempOut = s.tempOut := rfl
@[simp] theorem writeCrc_status (c : Byte) (s : State) : (writeCrc c s).status = s.status := rfl
@[simp] theorem writeCrc_stage (c : Byte) (s : State) : (writeCrc c s).stage = s.stage := rfl
@[simp] theorem writeCrc_errLatch (c : Byte) (s : State) : (writeCrc c s).errLatch = s.errLatch := rfl
@[simp] theorem writeCrc_meas (c : Byte) (s : State) : (writeCrc c s).meas = s.meas := rfl
@[simp] theorem writeCrc_addrSelQ (c : Byte) (s : State) : (writeCrc c s).addrSelQ = s.addrSelQ := rfl
@[simp] theorem writeCrc_params (c : Byte) (s : State) : (writeCrc c s).params = s.params := rfl
@[simp] theorem writeCrc_inputs (c : Byte) (s : State) : (writeCrc c s).inputs = s.inputs := rfl
@[simp] theorem writeCrc_trace (c : Byte) (s : State) : (writeCrc c s).trace = s.trace := rfl
@[simp] theorem writeCrc_draws (c : Byte) (s : State) : (writeCrc c s).draws = s.draws := rfl
@[simp] theorem writeCrc_busAddr (c : Byte) (s : State) : busAddr (writeCrc c s) = busAddr s := rfl

/-! ### takeFrame -/

@[simp] theorem takeFrame_seq (f : Frame) (s : State) : (takeFrame f s).seq = s.seq := rfl
@[simp] theorem takeFrame_cmdReg (f : Frame) (s : State) : (takeFrame f s).cmdReg = s.cmdReg := rfl
@[simp] theorem takeFrame_txBuf (f : Frame) (s : State) : (takeFrame f s).txBuf = s.txBuf := rfl
@[simp] theorem takeFrame_rxBuf (f : Frame) (s : State) : (takeFrame f s).rxBuf = f := rfl
@[simp] theorem takeFrame_crcReg (f : Frame) (s : State) : (takeFrame f s).crcReg = crc8 f.b0 f.b1 := rfl
@[simp] theorem takeFrame_dataOut (f : Frame) (s : State) : (takeFrame f s).dataOut = s.dataOut := rfl
@[simp] theorem takeFrame_tempOut (f : Frame) (s : State) : (takeFrame f s).tempOut = s.tempOut := rfl
@[simp] theorem takeFrame_status (f : Frame) (s : State) : (takeFrame f s).status = s.status := rfl
@[simp] theorem takeFrame_stage (f : Frame) (s : State) : (takeFrame f s).stage = s.stage := rfl
@[simp] theorem takeFrame_errLatch (f : Frame) (s : State) : (takeFrame f s).errLatch = s.errLatch := rfl
@[simp] theorem takeFrame_meas (f : Frame) (s : State) : (takeFrame f s).meas = s.meas := rfl
@[simp] theorem takeFrame_addrSelQ (f : Frame) (s : State) : (takeFrame f s).addrSelQ = s.addrSelQ := rfl
@[simp] theorem takeFrame_params (f : Frame) (s : State) : (takeFrame f s).params = s.params := rfl
@[simp] theorem takeFrame_inputs (f : Frame) (s : State) : (takeFrame f s).inputs = s.inputs := rfl
@[simp] theorem takeFrame_trace (f : Frame) (s : State) : (takeFrame f s).trace = s.trace := rfl
@[simp] theorem takeFrame_draws (f : Frame) (s : State) : (takeFrame f s).draws = s.draws := rfl
@[simp] theorem takeFrame_busAddr (f : Frame) (s : State) : busAddr (takeFrame f s) = busAddr s := rfl

/-! ### garbleRxBuf -/

@[simp] theorem garbleRxBuf_seq (s : State) : (garbleRxBuf s).seq = s.seq := rfl
@[simp] theorem garbleRxBuf_cmdReg (s : State) : (garbleRxBuf s).cmdReg = s.cmdReg := rfl
@[simp] theorem garbleRxBuf_txBuf (s : State) : (garbleRxBuf s).txBuf = s.txBuf := rfl
@[simp] theorem garbleRxBuf_rxBuf (s : State) : (garbleRxBuf s).rxBuf = ⟨Config.freeByte s.draws, Config.freeByte (s.draws + 1), Config.freeByte (s.draws + 2)⟩ := rfl
@[simp] theorem garbleRxBuf_crcReg (s : State) : (garbleRxBuf s).crcReg = s.crcReg := rfl
@[simp] theorem garbleRxBuf_dataOut (s : State) : (garbleRxBuf s).dataOut = s.dataOut := rfl
@[simp] theorem garbleRxBuf_tempOut (s : State) : (garbleRxBuf s).tempOut = s.tempOut := rfl
@[simp] theorem garbleRxBuf_status (s : State) : (garbleRxBuf s).status = s.status := rfl
@[simp] theorem garbleRxBuf_stage (s : State) : (garbleRxBuf s).stage = s.stage := rfl
@[simp] theorem garbleRxBuf_errLatch (s : State) : (garbleRxBuf s).errLatch = s.errLatch := rfl
@[simp] theorem garbleRxBuf_meas (s : State) : (garbleRxBuf s).meas = s.meas := rfl
@[simp] theorem garbleRxBuf_addrSelQ (s : State) : (garbleRxBuf s).addrSelQ = s.addrSelQ := rfl
@[simp] theorem garbleRxBuf_params (s : State) : (garbleRxBuf s).params = s.params := rfl
@[simp] theorem garbleRxBuf_inputs (s : State) : (garbleRxBuf s).inputs = s.inputs := rfl
@[simp] theorem garbleRxBuf_trace (s : State) : (garbleRxBuf s).trace = s.trace := rfl
@[simp] theorem garbleRxBuf_draws (s : State) : (garbleRxBuf s).draws = s.draws + 3 := rfl
@[simp] theorem garbleRxBuf_busAddr (s : State) : busAddr (garbleRxBuf s) = busAddr s := rfl

/-! ### applyRst -/

@[simp] theorem applyRst_seq (b : BitVec 1) (s : State) : (applyRst b s).seq = .idle := rfl
@[simp] theorem applyRst_cmdReg (b : BitVec 1) (s : State) : (applyRst b s).cmdReg = Config.freeHalf s.draws := rfl
@[simp] theorem applyRst_txBuf (b : BitVec 1) (s : State) : (applyRst b s).txBuf = ⟨Config.freeByte s.draws, Config.freeByte (s.draws + 1)⟩ := rfl
@[simp] theorem applyRst_rxBuf (b : BitVec 1) (s : State) : (applyRst b s).rxBuf = ⟨Config.freeByte (s.draws + 2), Config.freeByte (s.draws + 3), Config.freeByte (s.draws + 4)⟩ := rfl
@[simp] theorem applyRst_crcReg (b : BitVec 1) (s : State) : (applyRst b s).crcReg = Config.freeByte (s.draws + 5) := rfl
@[simp] theorem applyRst_dataOut (b : BitVec 1) (s : State) : (applyRst b s).dataOut = Config.freeHalf (s.draws + 1) := rfl
@[simp] theorem applyRst_tempOut (b : BitVec 1) (s : State) : (applyRst b s).tempOut = Config.freeWord s.draws := rfl
@[simp] theorem applyRst_status (b : BitVec 1) (s : State) : (applyRst b s).status = .ok := rfl
@[simp] theorem applyRst_stage (b : BitVec 1) (s : State) : (applyRst b s).stage = .none := rfl
@[simp] theorem applyRst_errLatch (b : BitVec 1) (s : State) : (applyRst b s).errLatch = false := rfl
@[simp] theorem applyRst_meas (b : BitVec 1) (s : State) : (applyRst b s).meas = false := rfl
@[simp] theorem applyRst_addrSelQ (b : BitVec 1) (s : State) : (applyRst b s).addrSelQ = b := rfl
@[simp] theorem applyRst_params (b : BitVec 1) (s : State) : (applyRst b s).params = s.params := rfl
@[simp] theorem applyRst_inputs (b : BitVec 1) (s : State) : (applyRst b s).inputs = s.inputs := rfl
@[simp] theorem applyRst_trace (b : BitVec 1) (s : State) : (applyRst b s).trace = s.trace ++ [.rst b] := rfl
@[simp] theorem applyRst_draws (b : BitVec 1) (s : State) : (applyRst b s).draws = s.draws + 6 := rfl

/-! ### Values computed from the state -/

@[simp] theorem ready_eq_true (s : State) : ready s = true ↔ s.seq = .idle := by simp [ready]

@[simp] theorem ready_eq_false (s : State) : ready s = false ↔ s.seq ≠ .idle := by simp [ready]

theorem busy_eq_not_ready (s : State) : busy s = !ready s := by simp [busy, ready]

@[simp] theorem ready_emit (e : Event) (s : State) : ready (emit e s) = ready s := rfl

end Sys2Proof.Machine
end

