-- ==== Sys2Proof/Laws/Ops.lean ====
section
/-! SUPPORT. One lemma per shared operation that says everything it can do: acceptance, the verify step, and the answer events. Proofs cite these instead of unfolding the operations. -/

namespace Sys2Proof.Machine

/-- An accepted request does its act. -/
theorem accept_of_idle {s : State} (h : s.seq = .idle) (act : State → State) : accept act s = .next (act s) := by
  simp [accept, ready, h]

/-- A request made while BUSY changes nothing. -/
theorem accept_of_busy {s : State} (h : s.seq ≠ .idle) (act : State → State) : accept act s = .next s := by
  simp [accept, ready, h]

/-- Acceptance always answers a next state: the act's, or the state itself. -/
theorem accept_cases {act : State → State} {s t : State} (h : accept act s = .next t) :
    (s.seq = .idle ∧ t = act s) ∨ (s.seq ≠ .idle ∧ t = s) := by
  by_cases hs : s.seq = .idle
  · rw [accept_of_idle hs] at h
    exact .inl ⟨hs, by injection h with h; exact h.symm⟩
  · rw [accept_of_busy hs] at h
    exact .inr ⟨hs, by injection h with h; exact h.symm⟩

/-- The verify step on a frame whose checksum is right. -/
theorem verifyStep_match (f : Frame) (h : crc8 f.b0 f.b1 = f.b2) (sg : Stage) (k : State → State) (s : State) :
    verifyStep f sg k s = complete .ok .none (k (writeData (decodeData f.b0 f.b1) (takeFrame f s))) := by
  simp [verifyStep, verify, h]

/-- The verify step on a frame whose checksum is wrong. -/
theorem verifyStep_mismatch (f : Frame) (h : crc8 f.b0 f.b1 ≠ f.b2) (sg : Stage) (k : State → State) (s : State) :
    verifyStep f sg k s = complete .checksumMismatch sg (takeFrame f s) := by
  simp [verifyStep, verify, h]

/-- Everything the verify step can do. -/
theorem verifyStep_cases (f : Frame) (sg : Stage) (k : State → State) (s : State) :
    (crc8 f.b0 f.b1 = f.b2 ∧
      verifyStep f sg k s = complete .ok .none (k (writeData (decodeData f.b0 f.b1) (takeFrame f s)))) ∨
    (crc8 f.b0 f.b1 ≠ f.b2 ∧ verifyStep f sg k s = complete .checksumMismatch sg (takeFrame f s)) := by
  by_cases hc : crc8 f.b0 f.b1 = f.b2
  · exact .inl ⟨hc, verifyStep_match f hc sg k s⟩
  · exact .inr ⟨hc, verifyStep_mismatch f hc sg k s⟩

/-! ### The MEAS rule of READ_COMMAND touches MEAS only -/

@[simp] theorem clearMeasIfFetch_seq (s : State) : (clearMeasIfFetch s).seq = s.seq := by
  unfold clearMeasIfFetch; split <;> rfl

@[simp] theorem clearMeasIfFetch_cmdReg (s : State) : (clearMeasIfFetch s).cmdReg = s.cmdReg := by
  unfold clearMeasIfFetch; split <;> rfl

@[simp] theorem clearMeasIfFetch_txBuf (s : State) : (clearMeasIfFetch s).txBuf = s.txBuf := by
  unfold clearMeasIfFetch; split <;> rfl

@[simp] theorem clearMeasIfFetch_rxBuf (s : State) : (clearMeasIfFetch s).rxBuf = s.rxBuf := by
  unfold clearMeasIfFetch; split <;> rfl

@[simp] theorem clearMeasIfFetch_crcReg (s : State) : (clearMeasIfFetch s).crcReg = s.crcReg := by
  unfold clearMeasIfFetch; split <;> rfl

@[simp] theorem clearMeasIfFetch_dataOut (s : State) : (clearMeasIfFetch s).dataOut = s.dataOut := by
  unfold clearMeasIfFetch; split <;> rfl

@[simp] theorem clearMeasIfFetch_tempOut (s : State) : (clearMeasIfFetch s).tempOut = s.tempOut := by
  unfold clearMeasIfFetch; split <;> rfl

@[simp] theorem clearMeasIfFetch_status (s : State) : (clearMeasIfFetch s).status = s.status := by
  unfold clearMeasIfFetch; split <;> rfl

@[simp] theorem clearMeasIfFetch_stage (s : State) : (clearMeasIfFetch s).stage = s.stage := by
  unfold clearMeasIfFetch; split <;> rfl

@[simp] theorem clearMeasIfFetch_errLatch (s : State) : (clearMeasIfFetch s).errLatch = s.errLatch := by
  unfold clearMeasIfFetch; split <;> rfl

@[simp] theorem clearMeasIfFetch_addrSelQ (s : State) : (clearMeasIfFetch s).addrSelQ = s.addrSelQ := by
  unfold clearMeasIfFetch; split <;> rfl

@[simp] theorem clearMeasIfFetch_params (s : State) : (clearMeasIfFetch s).params = s.params := by
  unfold clearMeasIfFetch; split <;> rfl

@[simp] theorem clearMeasIfFetch_inputs (s : State) : (clearMeasIfFetch s).inputs = s.inputs := by
  unfold clearMeasIfFetch; split <;> rfl

@[simp] theorem clearMeasIfFetch_trace (s : State) : (clearMeasIfFetch s).trace = s.trace := by
  unfold clearMeasIfFetch; split <;> rfl

@[simp] theorem clearMeasIfFetch_draws (s : State) : (clearMeasIfFetch s).draws = s.draws := by
  unfold clearMeasIfFetch; split <;> rfl

@[simp] theorem clearMeasIfFetch_meas (s : State) :
    (clearMeasIfFetch s).meas = if s.cmdReg = s.params.cmdFetchData then false else s.meas := by
  unfold clearMeasIfFetch
  split <;> rfl

/-! ### The answer events -/

/-- Everything a `TxResp` can do. -/
theorem onTxResp_cases {r : TxAnswer} {s t : State} (h : onTxResp r s = .next t) :
    (s.seq = .wcTx ∧ t = wcTxStep r (emit (.txResp r) s)) ∨ (s.seq = .rcTx ∧ t = rcTxStep r (emit (.txResp r) s)) ∨
    (s.seq = .smTx ∧ t = smTxStep r (emit (.txResp r) s)) ∨ (s.seq = .spTx ∧ t = spTxStep r (emit (.txResp r) s)) ∨
    (s.seq = .rtTx1 ∧ t = rtTx1Step r (emit (.txResp r) s)) ∨ (s.seq = .rtTx2 ∧ t = rtTx2Step r (emit (.txResp r) s)) := by
  unfold onTxResp at h
  split at h <;> first | (cases h; simp_all) | cases h

/-- Everything an `RxResp` can do. -/
theorem onRxResp_cases {r : RxAnswer} {s t : State} (h : onRxResp r s = .next t) :
    (s.seq = .rcRx ∧ t = rcRxStep r (emit (.rxResp r) s)) ∨ (s.seq = .rtRx ∧ t = rtRxStep r (emit (.rxResp r) s)) := by
  unfold onRxResp at h
  split at h <;> first | (cases h; simp_all) | cases h

/-- Everything a `DelayDone` can do. -/
theorem onDelayDone_cases {s t : State} (h : onDelayDone s = .next t) :
    (s.seq = .smDly ∧ t = smDlyStep (emit .delayDone s)) ∨ (s.seq = .spDly ∧ t = spDlyStep (emit .delayDone s)) ∨
    (s.seq = .rsDly1 ∧ t = rsDly1Step (emit .delayDone s)) ∨ (s.seq = .rsDly2 ∧ t = rsDly2Step (emit .delayDone s)) ∨
    (s.seq = .rtDly ∧ t = rtDlyStep (emit .delayDone s)) := by
  unfold onDelayDone at h
  split at h <;> first | (cases h; simp_all) | cases h

end Sys2Proof.Machine
end

