-- ==== Sys2Proof/Laws/WellFormed.lean ====
section
/-! SUPPORT. Every instruction is well formed: its operands have their fields' widths by type. -/

namespace Sys2Proof

theorem Instr.wellFormed_eq_true (i : Instr) : i.wellFormed = true := by
  cases i <;>
    simp only [Instr.wellFormed, Instr.toLine, Line.wellFormed, Line.countOk, Line.widthsOk, Op.operandWidths, List.zip_cons_cons,
      List.zip_nil_left, List.all_cons, List.all_nil, BitVec.isLt, decide_true] <;>
    rfl

/-- Writing an instruction down and reading it back gives it again. -/
theorem Line.toInstr?_toLine (i : Instr) : i.toLine.toInstr? = some i := by
  have h : i.toLine.wellFormed = true := Instr.wellFormed_eq_true i
  unfold Line.toInstr?
  rw [if_pos h]
  cases i <;> simp [Instr.toLine]

end Sys2Proof
end

