-- ==== Sys2Proof/Laws/PerInstr.lean ====
section
/-! SUPPORT. Facts stated instruction by instruction: family OpField. -/

namespace Sys2Proof.Laws.OpField

/-- The instruction's request word lies in its operation's row of the opcode map (R93), has zeros in every bit that its layout does
not name (R94), and the instruction is well formed. -/
def Statement (i : Instr) : Prop :=
  encode i &&& 0xF000000#28 = i.op.code ++ 0#24 ∧ encode i &&& i.op.usedBits = encode i ∧ i.wellFormed = true

/-- The OP field of a request word under the opcode map's mask. -/
theorem op_of_word (c : BitVec 4) (a : Arg) : (c ++ a) &&& (0xF#4 ++ 0#24) = c ++ 0#24 := by
  rw [BitVec.and_append, BitVec.and_zero]
  congr 1
  exact BitVec.and_allOnes

/-- The bits of a one-operand word of 16 bits, or of two bytes, that its layout names. -/
theorem used_half (c : BitVec 4) (a : Half) : (c ++ (0#8 ++ a) : Req) &&& (0xF#4 ++ (0#8 ++ 0xFFFF#16)) = c ++ (0#8 ++ a) := by
  rw [BitVec.and_append, BitVec.and_append]
  congr 1
  · exact BitVec.and_allOnes
  · congr 1
    exact BitVec.and_allOnes

theorem writeCommand (cmd : Half) : Statement (.writeCommand cmd) :=
  ⟨op_of_word _ _, used_half _ _, Instr.wellFormed_eq_true _⟩

theorem readCommand (cmd : Half) : Statement (.readCommand cmd) :=
  ⟨op_of_word _ _, used_half _ _, Instr.wellFormed_eq_true _⟩

theorem startMeasurement (cmd : Half) : Statement (.startMeasurement cmd) :=
  ⟨op_of_word _ _, used_half _ _, Instr.wellFormed_eq_true _⟩

theorem stopMeasurement : Statement .stopMeasurement :=
  ⟨by decide, by decide, Instr.wellFormed_eq_true _⟩

theorem resetDevice : Statement .resetDevice :=
  ⟨by decide, by decide, Instr.wellFormed_eq_true _⟩

theorem readTemperature : Statement .readTemperature :=
  ⟨by decide, by decide, Instr.wellFormed_eq_true _⟩

theorem crc8 (b0 b1 : Byte) : Statement (.crc8 b0 b1) :=
  ⟨op_of_word _ _, used_half _ _, Instr.wellFormed_eq_true _⟩

theorem encode (cmd : Half) : Statement (.encode cmd) :=
  ⟨op_of_word _ _, used_half _ _, Instr.wellFormed_eq_true _⟩

theorem decode (b0 b1 : Byte) : Statement (.decode b0 b1) :=
  ⟨op_of_word _ _, used_half _ _, Instr.wellFormed_eq_true _⟩

theorem parseFrame (b0 b1 b2 : Byte) : Statement (.parseFrame b0 b1 b2) :=
  ⟨op_of_word _ _, BitVec.and_allOnes, Instr.wellFormed_eq_true _⟩

theorem convert (raw : Half) : Statement (.convert raw) :=
  ⟨op_of_word _ _, used_half _ _, Instr.wellFormed_eq_true _⟩

theorem reservedB : Statement .reservedB :=
  ⟨by decide, by decide, Instr.wellFormed_eq_true _⟩

theorem reservedC : Statement .reservedC :=
  ⟨by decide, by decide, Instr.wellFormed_eq_true _⟩

theorem reservedD : Statement .reservedD :=
  ⟨by decide, by decide, Instr.wellFormed_eq_true _⟩

theorem reservedE : Statement .reservedE :=
  ⟨by decide, by decide, Instr.wellFormed_eq_true _⟩

theorem reservedF : Statement .reservedF :=
  ⟨by decide, by decide, Instr.wellFormed_eq_true _⟩

end Sys2Proof.Laws.OpField
end

