-- ==== Sys2Proof/Laws/Ports.lean ====
section
/-! SUPPORT. The codes and the ports lose nothing: the codes of SEQ, STATUS and STAGE are injective, and each register that has a port is what the port shows; DEV_ADDR by its bits. -/

namespace Sys2Proof.Machine

/-- DEV_ADDR, the OR of R30, bit by bit: the parameter's six bits over ADDR_SEL_Q (R70). -/
theorem devAddr_eq_append (s : State) : devAddr s = s.params.devAddrHigh ++ s.addrSelQ := by
  unfold devAddr Params.devAddrBase
  generalize s.params.devAddrHigh = h
  generalize s.addrSelQ = q
  revert h q
  decide

/-- A one-bit port is 1 exactly when its flag is set. -/
@[simp] theorem ofBool_eq_one (b : Bool) : BitVec.ofBool b = 1#1 ↔ b = true := by
  cases b <;> decide

/-- Each sequencer state has a code of its own (R28). -/
theorem seqCode_injective : Function.Injective seqCode := by
  intro a b; cases a <;> cases b <;> decide

/-- Each STATUS value has a code of its own (R31). -/
theorem statusCode_injective : Function.Injective statusCode := by
  intro a b; cases a <;> cases b <;> decide

/-- Each STAGE value has a code of its own (R32). -/
theorem stageCode_injective : Function.Injective stageCode := by
  intro a b; cases a <;> cases b <;> decide

@[simp] theorem outputs_cmdReg (s : State) : (outputs s).cmdReg = s.cmdReg := rfl
@[simp] theorem outputs_crcReg (s : State) : (outputs s).crcReg = s.crcReg := rfl
@[simp] theorem outputs_dataOut (s : State) : (outputs s).dataOut = s.dataOut := rfl
@[simp] theorem outputs_tempOut (s : State) : (outputs s).tempOut = s.tempOut := rfl
@[simp] theorem outputs_addrSelQ (s : State) : (outputs s).addrSelQ = s.addrSelQ := rfl
@[simp] theorem outputs_errLatch (s : State) : (outputs s).errLatch = BitVec.ofBool s.errLatch := rfl
@[simp] theorem outputs_meas (s : State) : (outputs s).meas = BitVec.ofBool s.meas := rfl
@[simp] theorem outputs_seq (s : State) : (outputs s).seq = seqCode s.seq := rfl
@[simp] theorem outputs_status (s : State) : (outputs s).status = statusCode s.status := rfl
@[simp] theorem outputs_stage (s : State) : (outputs s).stage = stageCode s.stage := rfl

end Sys2Proof.Machine
end

