-- ==== Sys2Proof/Laws/Scaler.lean ====
section
/-! SUPPORT. The converter: the integer scale in plain numerals, its range, and that TEMP_OUT holds it without loss (spec 43_converter.md R170). -/

namespace Sys2Proof.Machine

/-- `scale(raw) = floor(11468800 * raw / 65535) - 2949120` (R170). -/
theorem scaleInt_eq (raw : Half) : scaleInt raw = ((11468800 * raw.toNat / 65535 : Nat) : Int) - 2949120 := by
  unfold scaleInt tempSpan rawMax tempMin tempFracBits
  have h : 175 * raw.toNat * 2 ^ 16 = 11468800 * raw.toNat := by omega
  rw [h]
  omega

/-- The range of `scale` (R170). -/
theorem scaleInt_range (raw : Half) : -2949120 ≤ scaleInt raw ∧ scaleInt raw ≤ 8519680 := by
  have h := raw.isLt
  rw [scaleInt_eq]
  omega

/-- TEMP_OUT read as a signed number is `scale(raw)`: the result always fits s32. -/
theorem scale_toInt (raw : Half) : (scale raw).toInt = scaleInt raw := by
  obtain ⟨h1, h2⟩ := scaleInt_range raw
  unfold scale
  rw [BitVec.toInt_ofInt]
  apply Int.bmod_eq_of_le <;> omega

end Sys2Proof.Machine
end

