-- ==== Sys2Proof/Laws/Step.lean ====
section
/-! SUPPORT. What one step can do, said once: `step_cases` is the inversion lemma that every proof about all steps starts from. -/

namespace Sys2Proof.Machine

/-- With no input event the core waits. -/
theorem step_of_no_input {s : State} (h : s.inputs = []) : step s = .next s := by
  simp [step, nextEvent, h]

/-- With an input event the step is the reaction to it. -/
theorem step_of_input {s : State} {e : InputEvent} {rest : List InputEvent} (h : s.inputs = e :: rest) :
    step s = react e { s with inputs := rest } := by
  simp [step, nextEvent, h]

/-- What an offered request word does. -/
theorem onOffer_cases {w : Req} {s t : State} (h : onOffer w s = .next t) :
    (s.seq = .idle ∧ exec (decode w) (emit (.req (opField w) (argField w)) s) = .next t) ∨ (s.seq ≠ .idle ∧ t = s) := by
  unfold onOffer at h
  split at h
  case isTrue hr => exact .inl ⟨(ready_eq_true s).mp hr, h⟩
  case isFalse hr =>
    cases h
    exact .inr ⟨(ready_eq_false s).mp (by simpa only [Bool.not_eq_true] using hr), rfl⟩

/-- The next state of an operation's accepting step, by operation. -/
def acceptNext (i : Instr) (s : State) : State :=
  match i with
  | .writeCommand c     => goto .wcTx (send c s)
  | .readCommand c      => goto .rcTx (send c s)
  | .startMeasurement c => goto .smTx (send c s)
  | .stopMeasurement    => goto .spTx (send s.params.cmdBreak s)
  | .resetDevice        => goto .rsDly1 (startDelay tRstLow (setPin .low s))
  | .readTemperature    => goto .rtTx1 (send s.params.cmdStartDefault s)
  | .crc8 b0 b1         => complete .ok .none (writeCrc (crc8 b0 b1) s)
  | .encode c           => complete .ok .none (writeTxBuf (encodeCmd c) s)
  | .decode b0 b1       => complete .ok .none (writeData (decodeData b0 b1) s)
  | .parseFrame b0 b1 k => verifyStep ⟨b0, b1, k⟩ .none id s
  | .convert r          => complete .ok .none (writeTemp (scale r) s)
  | .reservedB | .reservedC | .reservedD | .reservedE | .reservedF => complete .illegalOp .none s

/-- Every operation's `exec` is acceptance of its act: this lemma replaces unfolding the sixteen meanings. -/
theorem exec_eq_accept (i : Instr) (s : State) : exec i s = accept (acceptNext i) s := by
  cases i <;> rfl

/-- Every operation completes its accepting step from IDLE. -/
theorem exec_of_idle (i : Instr) {s : State} (h : s.seq = .idle) : exec i s = .next (acceptNext i s) := by
  rw [exec_eq_accept, accept_of_idle h]

/-- No operation does anything while the core is BUSY. -/
theorem exec_of_busy (i : Instr) {s : State} (h : s.seq ≠ .idle) : exec i s = .next s := by
  rw [exec_eq_accept, accept_of_busy h]

/-- The `req` event recorded and the operation's act, for an accepted request. -/
theorem onOffer_of_idle {w : Req} {s : State} (h : s.seq = .idle) :
    onOffer w s = .next (acceptNext (decode w) (emit (.req (opField w) (argField w)) s)) := by
  have hr : ready s = true := by simpa using h
  simp only [onOffer, hr, if_true, exec_eq_accept]
  exact accept_of_idle (by simpa using h) _

/-- An offer made while BUSY is dropped. -/
theorem onOffer_of_busy {w : Req} {s : State} (h : s.seq ≠ .idle) : onOffer w s = .next s := by
  have hr : ready s = false := by simpa using h
  simp [onOffer, hr]

/-- Everything a step can do when it answers a next state. -/
theorem step_cases {s t : State} (h : step s = .next t) :
    (s.inputs = [] ∧ t = s) ∨
    (∃ w rest, s.inputs = .offer w :: rest ∧ s.seq = .idle ∧
      t = acceptNext (decode w) (emit (.req (opField w) (argField w)) { s with inputs := rest })) ∨
    (∃ w rest, s.inputs = .offer w :: rest ∧ s.seq ≠ .idle ∧ t = { s with inputs := rest }) ∨
    (∃ r rest, s.inputs = .txResp r :: rest ∧ onTxResp r { s with inputs := rest } = .next t) ∨
    (∃ r rest, s.inputs = .rxResp r :: rest ∧ onRxResp r { s with inputs := rest } = .next t) ∨
    (∃ rest, s.inputs = .delayDone :: rest ∧ onDelayDone { s with inputs := rest } = .next t) ∨
    (∃ b rest, s.inputs = .rst b :: rest ∧ t = applyRst b { s with inputs := rest }) := by
  cases hi : s.inputs with
  | nil =>
    rw [step_of_no_input hi] at h
    injection h with h
    exact .inl ⟨rfl, h.symm⟩
  | cons e rest =>
    rw [step_of_input hi] at h
    cases e with
    | offer w =>
      by_cases hs : s.seq = .idle
      · change onOffer w _ = _ at h
        rw [onOffer_of_idle (by simpa using hs)] at h
        injection h with h
        exact .inr (.inl ⟨w, rest, rfl, hs, h.symm⟩)
      · change onOffer w _ = _ at h
        rw [onOffer_of_busy (by simpa using hs)] at h
        injection h with h
        exact .inr (.inr (.inl ⟨w, rest, rfl, hs, h.symm⟩))
    | txResp r => exact .inr (.inr (.inr (.inl ⟨r, rest, rfl, h⟩)))
    | rxResp r => exact .inr (.inr (.inr (.inr (.inl ⟨r, rest, rfl, h⟩))))
    | delayDone => exact .inr (.inr (.inr (.inr (.inr (.inl ⟨rest, rfl, h⟩)))))
    | rst b =>
      change Host.Outcome.next _ = _ at h
      injection h with h
      exact .inr (.inr (.inr (.inr (.inr (.inr ⟨b, rest, rfl, h.symm⟩)))))

/-- Everything a step can do, with the wait state and its step function named: the sharper form of `step_cases`. -/
theorem step_cases_by_state {s t : State} (h : step s = .next t) :
    (s.inputs = [] ∧ t = s) ∨
    (∃ w rest, s.inputs = .offer w :: rest ∧ s.seq = .idle ∧
      t = acceptNext (decode w) (emit (.req (opField w) (argField w)) { s with inputs := rest })) ∨
    (∃ w rest, s.inputs = .offer w :: rest ∧ s.seq ≠ .idle ∧ t = { s with inputs := rest }) ∨
    (∃ r rest k, s.inputs = .txResp r :: rest ∧
      (s.seq = .wcTx ∧ k = wcTxStep ∨ s.seq = .rcTx ∧ k = rcTxStep ∨ s.seq = .smTx ∧ k = smTxStep ∨
        s.seq = .spTx ∧ k = spTxStep ∨ s.seq = .rtTx1 ∧ k = rtTx1Step ∨ s.seq = .rtTx2 ∧ k = rtTx2Step) ∧
      t = k r (emit (.txResp r) { s with inputs := rest })) ∨
    (∃ r rest k, s.inputs = .rxResp r :: rest ∧ (s.seq = .rcRx ∧ k = rcRxStep ∨ s.seq = .rtRx ∧ k = rtRxStep) ∧
      t = k r (emit (.rxResp r) { s with inputs := rest })) ∨
    (∃ rest k, s.inputs = .delayDone :: rest ∧
      (s.seq = .smDly ∧ k = smDlyStep ∨ s.seq = .spDly ∧ k = spDlyStep ∨ s.seq = .rsDly1 ∧ k = rsDly1Step ∨
        s.seq = .rsDly2 ∧ k = rsDly2Step ∨ s.seq = .rtDly ∧ k = rtDlyStep) ∧
      t = k (emit .delayDone { s with inputs := rest })) ∨
    (∃ b rest, s.inputs = .rst b :: rest ∧ t = applyRst b { s with inputs := rest }) := by
  obtain h | h | h | ⟨r, rest, hi, h⟩ | ⟨r, rest, hi, h⟩ | ⟨rest, hi, h⟩ | h := step_cases h
  · exact .inl h
  · exact .inr (.inl h)
  · exact .inr (.inr (.inl h))
  · refine .inr (.inr (.inr (.inl ?_)))
    obtain ⟨hq, ht⟩ | ⟨hq, ht⟩ | ⟨hq, ht⟩ | ⟨hq, ht⟩ | ⟨hq, ht⟩ | ⟨hq, ht⟩ := onTxResp_cases h
    all_goals exact ⟨r, rest, _, hi, by simp only at hq; simp [hq], ht⟩
  · refine .inr (.inr (.inr (.inr (.inl ?_))))
    obtain ⟨hq, ht⟩ | ⟨hq, ht⟩ := onRxResp_cases h
    all_goals exact ⟨r, rest, _, hi, by simp only at hq; simp [hq], ht⟩
  · refine .inr (.inr (.inr (.inr (.inr (.inl ?_)))))
    obtain ⟨hq, ht⟩ | ⟨hq, ht⟩ | ⟨hq, ht⟩ | ⟨hq, ht⟩ | ⟨hq, ht⟩ := onDelayDone_cases h
    all_goals exact ⟨rest, _, hi, by simp only at hq; simp [hq], ht⟩
  · exact .inr (.inr (.inr (.inr (.inr (.inr h)))))

/-- One step of the host's run of a machine. -/
theorem core_run_succ (M : Host.Core) (n : Nat) (s : M.State) :
    (∀ t, M.step s = .next t → M.run (n + 1) s = M.run n t) ∧
    (∀ f, M.step s = .fault f → M.run (n + 1) s = .fault f) ∧
    (∀ r, M.step s = .refused r → M.run (n + 1) s = .refused r) := by
  refine ⟨fun t h => ?_, fun f h => ?_, fun r h => ?_⟩ <;> rw [Host.Core.run, h]

/-- `runSteps` is the host's run of the core. -/
theorem runSteps_eq_core_run (n : Nat) (s : State) : runSteps n s = Sys2Proof.core.run n s := by
  induction n generalizing s with
  | zero => rfl
  | succ n ih =>
    obtain ⟨hn, hf, hr⟩ := core_run_succ Sys2Proof.core n s
    unfold runSteps
    cases h : step s with
    | next t => exact (ih t).trans (hn t h).symm
    | fault f => exact (hf f h).symm
    | refused r => exact (hr r h).symm

/-- `State.reset` is what `rst` leaves in a core whose trace, inputs and draws are empty. -/
theorem reset_eq_applyRst (s : State) (hp : s.params = Config.params) (hi : s.inputs = []) (hd : s.draws = 0) :
    { applyRst Config.addrSel s with trace := [] } = State.reset := by
  simp [applyRst, emit, State.reset, hp, hi, hd]

end Sys2Proof.Machine
end

