-- ==== Sys2Proof/Tests/Slice0.lean ====
section
/-! SUPPORT. Smoke tests: ill-formed lines, words written out from the encodings, one or two single steps per operation with the results of spec 95_test_vectors.md (its vector named at each), and a witness for the hypotheses of every statement. -/

namespace Sys2Proof.Tests

open Sys2Proof Sys2Proof.Machine

/-! ### Ill-formed terms are refused (spec 30_encoding.md R91, R103) -/

theorem test_line_too_few_operands : (Line.mk .crc8 [0xBE]).countOk = false := by decide
theorem test_line_too_many_operands : (Line.mk .stopMeasurement [0]).wellFormed = false := by decide
theorem test_line_operand_too_wide : (Line.mk .decode [0x12, 0x100]).widthsOk = false := by decide
theorem test_line_command_too_wide : (Line.mk .writeCommand [0x10000]).toInstr? = none := by decide
theorem test_line_good : (Line.mk .parseFrame [0xBE, 0xEF, 0x92]).toInstr? = some (.parseFrame 0xBE#8 0xEF#8 0x92#8) := by
  decide
theorem test_word_too_wide : reqWordOk 0x10000000 = false ∧ decodeWord 0x10000000 = .error .wordTooWide ∧
    decodeTableWord 32 0x10000000 = none := by
  decide

/-! ### Words written out bit by bit: OP in bits 27 to 24, ARG in bits 23 to 0 (R90, R91, R93) -/

theorem test_decode_write_command : decode 0b0000_00000000_0011000010100010#28 = .writeCommand 0x30A2#16 := by decide
theorem test_decode_read_command : decode 0b0001_00000000_1110000000000000#28 = .readCommand 0xE000#16 := by decide
theorem test_decode_start : decode 0b0010_00000000_0010000100110000#28 = .startMeasurement 0x2130#16 := by decide
theorem test_decode_stop : decode 0b0011_111111111111111111111111#28 = .stopMeasurement := by decide
theorem test_decode_reset : decode 0b0100_000000000000000000000000#28 = .resetDevice := by decide
theorem test_decode_read_temperature : decode 0b0101_000000000000000000000001#28 = .readTemperature := by decide
theorem test_decode_crc8 : decode 0b0110_11111111_10111110_11101111#28 = .crc8 0xBE#8 0xEF#8 := by decide
theorem test_decode_encode : decode 0b0111_10101011_0001001000110100#28 = .encode 0x1234#16 := by decide
theorem test_decode_decode : decode 0b1000_11001101_00010010_00110100#28 = .decode 0x12#8 0x34#8 := by decide
theorem test_decode_parse_frame : decode 0b1001_10111110_11101111_10010010#28 = .parseFrame 0xBE#8 0xEF#8 0x92#8 := by
  decide
theorem test_decode_convert : decode 0b1010_00010010_0110011001100110#28 = .convert 0x6666#16 := by decide
theorem test_decode_reserved :
    decode 0b1011_000000000000000000000000#28 = .reservedB ∧ decode 0b1100_000000000000000000000000#28 = .reservedC ∧
    decode 0b1101_000000000000000000000000#28 = .reservedD ∧ decode 0b1110_000000000000000000000000#28 = .reservedE ∧
    decode 0b1111_000100100011010001010110#28 = .reservedF := by
  decide

/-! ### The test configuration TC (95_test_vectors.md section 0) -/

/-- The parameters of TC; the others are test values. -/
def tcParams : Params where
  cmdStartDefault  := 0x2130#16
  cmdFetchData     := 0xE000#16
  cmdBreak         := 0x3093#16
  cmdSoftReset     := 0x30A2#16
  cmdReadStatus    := 0xF32D#16
  cmdClearStatus   := 0x3041#16
  cmdReadSerial    := 0#16
  cmdHeaterEnable  := 0x306D#16
  cmdHeaterDisable := 0x3066#16
  startCommands    := [⟨.periodic, some 1, .high, 0x2130#16⟩]
  devAddrHigh      := 0b100101#6
  resetPin         := 7
  timeUnit         := 1

/-- A state of TC at `q`, with values in the data registers that tell them apart, and these inputs to come. -/
def tc (q : Machine.Seq) (inputs : List InputEvent) : State where
  seq      := q
  cmdReg   := 0x0102#16
  txBuf    := ⟨0x03#8, 0x04#8⟩
  rxBuf    := ⟨0x05#8, 0x06#8, 0x07#8⟩
  crcReg   := 0x08#8
  dataOut  := 0x090A#16
  tempOut  := 0x0B0C0D0E#32
  status   := .ok
  stage    := .none
  errLatch := false
  meas     := false
  addrSelQ := 0#1
  params   := tcParams
  inputs   := inputs
  trace    := []
  draws    := 6

/-- The step answers a next state of which `p` holds. -/
def leads (s : State) (p : State → Bool) : Bool :=
  match step s with
  | .next t    => p t
  | .fault _   => false
  | .refused _ => false

/-! ### One step each -/

/-- W1. -/
theorem test_write_command_sends : leads (tc .idle [.offer 0x00030A2#28]) (fun t => t.seq = .wcTx ∧ t.cmdReg = 0x30A2#16 ∧
    t.txBuf = ⟨0x30#8, 0xA2#8⟩ ∧ t.trace = [.req 0x0#4 0x0030A2#24, .transmit 0x4A#8 ⟨0x30#8, 0xA2#8⟩]) = true := by
  decide
/-- W2, its second step. -/
theorem test_write_command_fails : leads (tc .wcTx [.txResp .fail]) (fun t => t.seq = .idle ∧ t.status = .transportError ∧
    t.trace = [.txResp .fail, .done .transportError .none]) = true := by
  decide
/-- P3: no `Receive` after a failed write; the strap is 1, so the address is 0x4B. -/
theorem test_read_command_short_circuits : leads { tc .rcTx [.txResp .fail] with addrSelQ := 1#1 } (fun t => t.seq = .idle ∧
    t.rxBuf = ⟨0x05#8, 0x06#8, 0x07#8⟩ ∧ t.crcReg = 0x08#8 ∧
    t.trace = [.txResp .fail, .done .transportError .none]) = true := by
  decide
/-- S4, its last step: a right frame after a fetch clears MEAS. -/
theorem test_read_command_good_frame :
    leads { tc .rcRx [.rxResp (.ok ⟨0xBE#8, 0xEF#8, 0x92#8⟩)] with cmdReg := 0xE000#16, meas := true } (fun t =>
      t.seq = .idle ∧ t.status = .ok ∧ t.dataOut = 0xBEEF#16 ∧ t.crcReg = 0x92#8 ∧ t.meas = false) = true := by
  decide +kernel
/-- M2: the delay is made after a failed write too. -/
theorem test_start_delays_after_failure : leads (tc .smTx [.txResp .fail]) (fun t => t.seq = .smDly ∧ t.errLatch = true ∧
    t.trace = [.txResp .fail, .delay 20]) = true := by
  decide
/-- M1, its last step. -/
theorem test_start_sets_meas : leads (tc .smDly [.delayDone]) (fun t => t.seq = .idle ∧ t.status = .ok ∧
    t.meas = true) = true := by
  decide
/-- B1: the BREAK command goes out. -/
theorem test_stop_sends_break : leads (tc .idle [.offer 0x3000000#28]) (fun t => t.seq = .spTx ∧ t.cmdReg = 0x3093#16 ∧
    t.trace = [.req 0x3#4 0#24, .transmit 0x4A#8 ⟨0x30#8, 0x93#8⟩]) = true := by
  decide
/-- A failed stop leaves MEAS (R38). -/
theorem test_failed_stop_keeps_meas : leads { tc .spDly [.delayDone] with errLatch := true, meas := true } (fun t =>
    t.status = .transportError ∧ t.meas = true) = true := by
  decide
/-- X1, its first step. -/
theorem test_reset_device_drives_low : leads (tc .idle [.offer 0x4000000#28]) (fun t => t.seq = .rsDly1 ∧
    t.trace = [.req 0x4#4 0#24, .setPin 7 .low, .delay 1]) = true := by
  decide
/-- X1, its second step: the level is honoured (90_conflicts.md C2). -/
theorem test_reset_device_drives_high : leads (tc .rsDly1 [.delayDone]) (fun t => t.seq = .rsDly2 ∧
    t.trace = [.delayDone, .setPin 7 .high, .delay 100]) = true := by
  decide
/-- P4: a failed start stage ends with STAGE = START, and no fetch command goes out. -/
theorem test_read_temperature_start_failed : leads { tc .rtDly [.delayDone] with errLatch := true } (fun t => t.seq = .idle ∧
    t.status = .transportError ∧ t.stage = .start ∧ t.trace = [.delayDone, .done .transportError .start]) = true := by
  decide
/-- P1, its last step: 25 degrees. -/
theorem test_read_temperature_converts :
    leads { tc .rtRx [.rxResp (.ok ⟨0x66#8, 0x66#8, 0x93#8⟩)] with meas := true } (fun t => t.seq = .idle ∧ t.status = .ok ∧
      t.stage = .none ∧ t.dataOut = 0x6666#16 ∧ t.tempOut = 0x00190000#32 ∧ t.meas = false) = true := by
  decide +kernel
/-- H23, and H15 (the bytes swapped). -/
theorem test_crc8 : leads (tc .idle [.offer 0x6FFBEEF#28]) (fun t => t.seq = .idle ∧ t.status = .ok ∧ t.crcReg = 0x92#8 ∧
    t.rxBuf = ⟨0x05#8, 0x06#8, 0x07#8⟩) = true ∧ crc8 0xEF#8 0xBE#8 = 0xCE#8 := by
  decide +kernel
/-- The inner steps listed in section 2.1, and H2 to H4. -/
theorem test_crc8_inner_steps : bitstep 0x80#8 = 0x31#8 ∧ bitstep 0x40#8 = 0x80#8 ∧ bitstep 0xFF#8 = 0xCF#8 ∧
    bytestep 0x00#8 0x01#8 = 0x31#8 ∧ crc8 0x00#8 0x00#8 = 0x81#8 ∧ crc8 0xFF#8 0xFF#8 = 0xAC#8 ∧
    crc8 0xFF#8 0x00#8 = 0x00#8 := by
  decide +kernel
/-- E4. -/
theorem test_encode : leads (tc .idle [.offer 0x70000FF#28]) (fun t => t.txBuf = ⟨0x00#8, 0xFF#8⟩ ∧ t.cmdReg = 0x0102#16 ∧
    t.trace = [.req 0x7#4 0x0000FF#24, .done .ok .none]) = true := by
  decide
/-- E12. -/
theorem test_decode : leads (tc .idle [.offer 0x8008001#28]) (fun t => t.dataOut = 0x8001#16 ∧
    t.crcReg = 0x08#8) = true := by
  decide
/-- F1. -/
theorem test_parse_frame_good : leads (tc .idle [.offer 0x9BEEF92#28]) (fun t => t.status = .ok ∧ t.dataOut = 0xBEEF#16 ∧
    crcOk t = true) = true := by
  decide +kernel
/-- F2. -/
theorem test_parse_frame_bad : leads (tc .idle [.offer 0x9BEEF00#28]) (fun t => t.status = .checksumMismatch ∧
    t.dataOut = 0x090A#16 ∧ t.crcReg = 0x92#8 ∧ t.rxBuf = ⟨0xBE#8, 0xEF#8, 0x00#8⟩ ∧ crcOk t = false) = true := by
  decide +kernel
/-- K4 (floor, not rounding). -/
theorem test_convert : leads (tc .idle [.offer 0xA000176#28]) (fun t => t.tempOut = 0xFFD3FFAA#32 ∧ t.dataOut = 0x090A#16) =
    true := by
  decide +kernel
/-- K1, K6, K7, K8, K14, K16. -/
theorem test_scale : scale 0#16 = 0xFFD30000#32 ∧ scale 0x41D3#16 = 0xFFFFFF69#32 ∧ scale 0x41D4#16 = 0x00000019#32 ∧
    scale 0x7FFF#16 = 0x002A7FA8#32 ∧ scale 0xBEEF#16 = 0x005585E3#32 ∧ scale 0xFFFF#16 = 0x00820000#32 := by
  decide +kernel
/-- P5, its last step. -/
theorem test_reserved : leads (tc .idle [.offer 0xF123456#28]) (fun t => t.seq = .idle ∧ t.status = .illegalOp ∧
    t.trace = [.req 0xF#4 0x123456#24, .done .illegalOp .none] ∧ t.dataOut = 0x090A#16) = true := by
  decide

/-! ### Requests while BUSY, `rst`, unasked answers -/

/-- A request offered while BUSY is not remembered (R92). -/
theorem test_busy_ignores_request : leads (tc .smDly [.offer 0x4000000#28,
      .delayDone]) (fun t => t = tc .smDly [.delayDone]) =
    true := by
  decide
/-- Z2. -/
theorem test_rst : leads { tc .rtDly [.rst 1#1] with errLatch := true, meas := true, status := .transportError } (fun t =>
    t.seq = .idle ∧ t.status = .ok ∧ t.stage = .none ∧ t.errLatch = false ∧ t.meas = false ∧ t.addrSelQ = 1#1 ∧
    busAddr t = 0x4B#8 ∧ t.trace = [.rst 1#1]) = true := by
  decide
/-- An unasked answer is a fault by name (R68; log entry 4). -/
theorem test_unasked_answer : step (tc .idle [.delayDone]) = .fault (.unsolicitedDelayDone .idle) := rfl

/-! ### Witnesses: for each statement with hypotheses, a state and operands that meet them, clause by clause -/

theorem witness_RequestAcceptedOnlyInIdle :
    (tc .idle [.offer 0x6000001#28]).inputs = [.offer 0x6000001#28] ∧ (tc .idle [.offer 0x6000001#28]).seq = .idle ∧
    (tc .wcTx [.offer 0x6000001#28]).inputs = [.offer 0x6000001#28] ∧
    (tc .wcTx [.offer 0x6000001#28]).seq ≠ .idle := by decide

theorem witness_FetchWordRunsNext :
    decodeTableWord 32 0x600BEEF = some (.crc8 0xBE#8 0xEF#8) ∧ decodeTableWord 0 0xFFFFFFF = some .reservedF := by decide

theorem witness_OpcodeMapSelectsOperation :
    OpRow.mk .crc8 0x6000000#28 0xF000000#28 ∈ opRows ∧ 0x6FFBEEF#28 &&& 0xF000000#28 = 0x6000000#28 ∧
    (decode 0x6FFBEEF#28).op = .crc8 ∧ (decode 0x7FFBEEF#28).op ≠ .crc8 := by decide

theorem witness_UnusedArgBitsIgnored :
    (0x6FFBEEF#28 ^^^ 0x600BEEF#28) &&& (decode 0x6FFBEEF#28).op.usedBits = 0#28 ∧ 0x6FFBEEF#28 ≠ 0x600BEEF#28 := by decide

theorem witness_Crc8WritesChecksum :
    (tc .idle []).seq = .idle := by decide

theorem witness_EncodeWritesTxBuf :
    (tc .idle []).seq = .idle := by decide

theorem witness_DecodeWritesDataOut :
    (tc .idle []).seq = .idle := by decide

theorem witness_ConvertWritesTempOut :
    (tc .idle []).seq = .idle := by decide

theorem witness_WriteCommandSends :
    (tc .idle []).seq = .idle := by decide

theorem witness_ReadCommandSends :
    (tc .idle []).seq = .idle := by decide

theorem witness_ResetDeviceDrivesLow :
    (tc .idle []).seq = .idle := by decide

theorem witness_ReadTemperatureSendsStart :
    (tc .idle []).seq = .idle := by decide

theorem witness_ParseFrameVerifies :
    (tc .idle []).seq = .idle ∧ crc8 0xBE#8 0xEF#8 = 0x92#8 ∧ crc8 0xBE#8 0xEF#8 ≠ 0x93#8 := by decide +kernel

theorem witness_ReservedOpsAreIllegal :
    (tc .idle []).seq = .idle ∧
    Instr.reservedB ∈ [Instr.reservedB, .reservedC, .reservedD, .reservedE, .reservedF] ∧
    Instr.reservedF ∈ [Instr.reservedB, .reservedC, .reservedD, .reservedE, .reservedF] := by decide

theorem witness_WriteCommandCompletes :
    (tc .idle [.offer (0x0#4 ++ 0x0030A2#24), .txResp .ok]).seq = .idle ∧
    (tc .idle [.offer (0x0#4 ++ 0x0030A2#24), .txResp .ok]).inputs = [.offer (0x0#4 ++ 0x0030A2#24), .txResp .ok] ∧
    (tc .wcTx [.txResp .ok]).seq = .wcTx ∧ (tc .wcTx [.txResp .ok]).inputs = [.txResp .ok] ∧
    (tc .wcTx [.txResp .fail]).seq = .wcTx ∧ (tc .wcTx [.txResp .fail]).inputs = [.txResp .fail] := by decide

theorem witness_ReadCommandShortCircuits :
    (tc .rcTx [.txResp .fail]).seq = .rcTx ∧ (tc .rcTx [.txResp .fail]).inputs = [.txResp .fail] ∧
    (tc .rcTx [.txResp .ok]).seq = .rcTx ∧ (tc .rcTx [.txResp .ok]).inputs = [.txResp .ok] := by decide

theorem witness_ReadCommandVerifies :
    (tc .idle [.offer (0x1#4 ++ 0x00E000#24), .txResp .fail]).seq = .idle ∧
    (tc .idle [.offer (0x1#4 ++ 0x00E000#24), .txResp .fail]).inputs = [.offer (0x1#4 ++ 0x00E000#24), .txResp .fail] ∧
    (tc .idle [.offer (0x1#4 ++ 0x00E000#24), .txResp .ok, .rxResp .fail]).seq = .idle ∧
    (tc .idle [.offer (0x1#4 ++ 0x00E000#24), .txResp .ok, .rxResp .fail]).inputs = [.offer (0x1#4 ++ 0x00E000#24),
      .txResp .ok, .rxResp .fail] ∧
    (tc .idle [.offer (0x1#4 ++ 0x00E000#24), .txResp .ok, .rxResp (.ok ⟨0xBE#8, 0xEF#8, 0x00#8⟩)]).seq = .idle ∧
    (tc .idle [.offer (0x1#4 ++ 0x00E000#24), .txResp .ok, .rxResp (.ok ⟨0xBE#8, 0xEF#8,
      0x00#8⟩)]).inputs = [.offer (0x1#4 ++ 0x00E000#24), .txResp .ok, .rxResp (.ok ⟨0xBE#8, 0xEF#8, 0x00#8⟩)] ∧
    (tc .idle [.offer (0x1#4 ++ 0x00E000#24), .txResp .ok, .rxResp (.ok ⟨0xBE#8, 0xEF#8, 0x92#8⟩)]).seq = .idle ∧
    (tc .idle [.offer (0x1#4 ++ 0x00E000#24), .txResp .ok, .rxResp (.ok ⟨0xBE#8, 0xEF#8,
      0x92#8⟩)]).inputs = [.offer (0x1#4 ++ 0x00E000#24), .txResp .ok, .rxResp (.ok ⟨0xBE#8, 0xEF#8, 0x92#8⟩)] ∧
    (tc .rcRx [.rxResp .fail]).seq = .rcRx ∧ (tc .rcRx [.rxResp .fail]).inputs = [.rxResp .fail] ∧
    (tc .rcRx [.rxResp (.ok ⟨0xBE#8, 0xEF#8, 0x00#8⟩)]).seq = .rcRx ∧
    (tc .rcRx [.rxResp (.ok ⟨0xBE#8, 0xEF#8, 0x00#8⟩)]).inputs = [.rxResp (.ok ⟨0xBE#8, 0xEF#8, 0x00#8⟩)] ∧
    (tc .rcRx [.rxResp (.ok ⟨0xBE#8, 0xEF#8, 0x92#8⟩)]).seq = .rcRx ∧
    (tc .rcRx [.rxResp (.ok ⟨0xBE#8, 0xEF#8, 0x92#8⟩)]).inputs = [.rxResp (.ok ⟨0xBE#8, 0xEF#8, 0x92#8⟩)] ∧
    crc8 0xBE#8 0xEF#8 = 0x92#8 ∧ crc8 0xBE#8 0xEF#8 ≠ 0x00#8 := by decide +kernel

theorem witness_StartMeasurementWrites :
    (tc .idle []).seq = .idle ∧
    (tc .smTx [.txResp .ok]).seq = .smTx ∧ (tc .smTx [.txResp .ok]).inputs = [.txResp .ok] ∧
    (tc .smTx [.txResp .fail]).seq = .smTx ∧ (tc .smTx [.txResp .fail]).inputs = [.txResp .fail] := by decide

theorem witness_StartMeasurementCompletes :
    (tc .idle [.offer (0x2#4 ++ 0x002130#24), .txResp .ok, .delayDone]).seq = .idle ∧
    (tc .idle [.offer (0x2#4 ++ 0x002130#24), .txResp .ok, .delayDone]).inputs = [.offer (0x2#4 ++ 0x002130#24),
      .txResp .ok, .delayDone] ∧
    (tc .smDly [.delayDone]).seq = .smDly ∧ (tc .smDly [.delayDone]).inputs = [.delayDone] ∧
    (tc .smDly [.delayDone]).errLatch = false ∧ { tc .smDly [.delayDone] with errLatch := true }.errLatch = true := by decide

theorem witness_StopMeasurementWrites :
    (tc .idle []).seq = .idle ∧
    (tc .spTx [.txResp .ok]).seq = .spTx ∧ (tc .spTx [.txResp .ok]).inputs = [.txResp .ok] ∧
    (tc .spTx [.txResp .fail]).seq = .spTx ∧ (tc .spTx [.txResp .fail]).inputs = [.txResp .fail] := by decide

theorem witness_StopMeasurementCompletes :
    (tc .idle [.offer (0x3#4 ++ 0x000000#24), .txResp .fail, .delayDone]).seq = .idle ∧
    (tc .idle [.offer (0x3#4 ++ 0x000000#24), .txResp .fail, .delayDone]).inputs = [.offer (0x3#4 ++ 0x000000#24),
      .txResp .fail, .delayDone] ∧
    (tc .spDly [.delayDone]).seq = .spDly ∧ (tc .spDly [.delayDone]).inputs = [.delayDone] ∧
    (tc .spDly [.delayDone]).errLatch = false ∧ { tc .spDly [.delayDone] with errLatch := true }.errLatch = true := by decide

theorem witness_ResetDeviceDrivesHighAndCompletes :
    (tc .idle [.offer (0x4#4 ++ 0x000000#24), .delayDone, .delayDone]).seq = .idle ∧
    (tc .idle [.offer (0x4#4 ++ 0x000000#24), .delayDone, .delayDone]).inputs = [.offer (0x4#4 ++ 0x000000#24), .delayDone,
      .delayDone] ∧
    (tc .rsDly1 [.delayDone]).seq = .rsDly1 ∧ (tc .rsDly1 [.delayDone]).inputs = [.delayDone] ∧
    (tc .rsDly2 [.delayDone]).seq = .rsDly2 ∧ (tc .rsDly2 [.delayDone]).inputs = [.delayDone] := by decide

theorem witness_ReadTemperatureSettles :
    (tc .rtTx1 [.txResp .ok]).seq = .rtTx1 ∧ (tc .rtTx1 [.txResp .ok]).inputs = [.txResp .ok] ∧
    (tc .rtTx1 [.txResp .fail]).seq = .rtTx1 ∧ (tc .rtTx1 [.txResp .fail]).inputs = [.txResp .fail] := by decide

theorem witness_ReadTemperatureEndsStartStage :
    (tc .rtDly [.delayDone]).seq = .rtDly ∧ (tc .rtDly [.delayDone]).inputs = [.delayDone] ∧
    (tc .rtDly [.delayDone]).errLatch = false ∧ { tc .rtDly [.delayDone] with errLatch := true }.errLatch = true := by decide

theorem witness_ReadTemperatureRequestsFrame :
    (tc .rtTx2 [.txResp .fail]).seq = .rtTx2 ∧ (tc .rtTx2 [.txResp .fail]).inputs = [.txResp .fail] ∧
    (tc .rtTx2 [.txResp .ok]).seq = .rtTx2 ∧ (tc .rtTx2 [.txResp .ok]).inputs = [.txResp .ok] := by decide

theorem witness_ReadTemperatureVerifiesAndConverts :
    (tc .idle [.offer (0x5#4 ++ 0x000000#24), .txResp .fail, .delayDone]).seq = .idle ∧
    (tc .idle [.offer (0x5#4 ++ 0x000000#24), .txResp .fail, .delayDone]).inputs = [.offer (0x5#4 ++ 0x000000#24),
      .txResp .fail, .delayDone] ∧
    (tc .idle [.offer (0x5#4 ++ 0x000000#24), .txResp .ok, .delayDone, .txResp .fail]).seq = .idle ∧
    (tc .idle [.offer (0x5#4 ++ 0x000000#24), .txResp .ok, .delayDone,
      .txResp .fail]).inputs = [.offer (0x5#4 ++ 0x000000#24), .txResp .ok, .delayDone, .txResp .fail] ∧
    (tc .idle [.offer (0x5#4 ++ 0x000000#24), .txResp .ok, .delayDone, .txResp .ok, .rxResp .fail]).seq = .idle ∧
    (tc .idle [.offer (0x5#4 ++ 0x000000#24), .txResp .ok, .delayDone, .txResp .ok,
      .rxResp .fail]).inputs = [.offer (0x5#4 ++ 0x000000#24), .txResp .ok, .delayDone, .txResp .ok, .rxResp .fail] ∧
    (tc .idle [.offer (0x5#4 ++ 0x000000#24), .txResp .ok, .delayDone, .txResp .ok, .rxResp (.ok ⟨0xBE#8, 0xEF#8,
      0x00#8⟩)]).seq = .idle ∧
    (tc .idle [.offer (0x5#4 ++ 0x000000#24), .txResp .ok, .delayDone, .txResp .ok, .rxResp (.ok ⟨0xBE#8, 0xEF#8,
      0x00#8⟩)]).inputs = [.offer (0x5#4 ++ 0x000000#24), .txResp .ok, .delayDone, .txResp .ok, .rxResp (.ok ⟨0xBE#8,
      0xEF#8, 0x00#8⟩)] ∧
    (tc .idle [.offer (0x5#4 ++ 0x000000#24), .txResp .ok, .delayDone, .txResp .ok, .rxResp (.ok ⟨0xBE#8, 0xEF#8,
      0x92#8⟩)]).seq = .idle ∧
    (tc .idle [.offer (0x5#4 ++ 0x000000#24), .txResp .ok, .delayDone, .txResp .ok, .rxResp (.ok ⟨0xBE#8, 0xEF#8,
      0x92#8⟩)]).inputs = [.offer (0x5#4 ++ 0x000000#24), .txResp .ok, .delayDone, .txResp .ok, .rxResp (.ok ⟨0xBE#8,
      0xEF#8, 0x92#8⟩)] ∧
    (tc .rtRx [.rxResp .fail]).seq = .rtRx ∧ (tc .rtRx [.rxResp .fail]).inputs = [.rxResp .fail] ∧
    (tc .rtRx [.rxResp (.ok ⟨0xBE#8, 0xEF#8, 0x00#8⟩)]).seq = .rtRx ∧
    (tc .rtRx [.rxResp (.ok ⟨0xBE#8, 0xEF#8, 0x00#8⟩)]).inputs = [.rxResp (.ok ⟨0xBE#8, 0xEF#8, 0x00#8⟩)] ∧
    (tc .rtRx [.rxResp (.ok ⟨0xBE#8, 0xEF#8, 0x92#8⟩)]).seq = .rtRx ∧
    (tc .rtRx [.rxResp (.ok ⟨0xBE#8, 0xEF#8, 0x92#8⟩)]).inputs = [.rxResp (.ok ⟨0xBE#8, 0xEF#8, 0x92#8⟩)] ∧
    crc8 0xBE#8 0xEF#8 = 0x92#8 ∧ crc8 0xBE#8 0xEF#8 ≠ 0x00#8 := by decide +kernel

theorem witness_RstResetsFromEveryState :
    (tc .rsDly1 [.rst 1#1]).inputs = [.rst 1#1] := by decide

theorem witness_StepFaultsExactlyOnUnaskedAnswers :
    (tc .idle [.delayDone]).inputs = [.delayDone] ∧ admitted (tc .idle [.delayDone]).seq .delayDone = false ∧
    (tc .rtDly []).inputs = [] := by decide

theorem witness_StepFollowsTransitionTable :
    (∀ w, InputEvent.offer 0x2000000#28 = .offer w → (tc .idle []).seq = .idle) ∧
    seqAfter .idle (.offer 0x2000000#28) false = some .smTx ∧ seqAfter .rtDly .delayDone true = some .idle ∧
    seqAfter .rtDly .delayDone false = some .rtTx2 ∧ seqAfter .rtRx (.rst 0#1) false = some .idle ∧
    seqAfter .wcTx .delayDone false = none := ⟨fun _ _ => rfl, by decide⟩

theorem witness_SequencerStaysInOperation :
    ∃ t, step (tc .rtTx1 [.txResp .ok]) = .next t ∧ t.seq = .rtDly := ⟨_, rfl, rfl⟩

/-- An environment that answers what it is asked, each write and read well. -/
def tcEnv (q : Machine.Seq) : InputEvent :=
  match awaits q with
  | some .txResp    => .txResp .ok
  | some .rxResp    => .rxResp (.ok ⟨0xBE#8, 0xEF#8, 0x92#8⟩)
  | some .delayDone => .delayDone
  | none            => .delayDone

theorem witness_OperationsEndInBoundedSteps :
    (∀ q, q ≠ .idle → answers q (tcEnv q) = true) ∧ (tc .idle [.offer 0x5000000#28]).seq = .idle ∧
    (tc .idle [.offer 0x5000000#28]).inputs = [.offer 0x5000000#28] := by
  refine ⟨fun q _ => ?_, rfl, rfl⟩
  cases q <;> first | contradiction | decide

theorem witness_OperationsMakeTheirDelays :
    (∀ q, q ≠ .idle → answers q (tcEnv q) = true) ∧ (tc .idle [.offer 0x5000000#28]).seq = .idle ∧
    (tc .idle [.offer 0x5000000#28]).inputs = [.offer 0x5000000#28] := by
  refine ⟨fun q _ => ?_, rfl, rfl⟩
  cases q <;> first | contradiction | decide

/-- A state of TC in the middle of a READ_COMMAND, whose write is about to be answered. -/
def tcRcTx : State :=
  { tc .rcTx [.txResp .ok] with
    cmdReg := 0xE000#16
    txBuf  := ⟨0xE0#8, 0x00#8⟩
    trace  := [.req 0x1#4 0x00E000#24, .transmit 0x4A#8 ⟨0xE0#8, 0x00#8⟩] }

theorem tcRcTx_inv : Inv tcRcTx := ⟨⟨[.req 0x1#4 0x00E000#24], rfl⟩, rfl, trivial⟩

theorem tcRcTx_receives : receivesFollowGoodWrites tcRcTx.trace := by
  intro pre a n post h
  have hm : Event.receive a n ∈ tcRcTx.trace := by rw [h]; simp
  simp [tcRcTx] at hm

theorem witness_InvKeptByEveryStep :
    Inv tcRcTx ∧ ∃ t, step tcRcTx = .next t := ⟨tcRcTx_inv, _, rfl⟩

theorem witness_ReceivesFollowGoodWritesKept :
    Inv tcRcTx ∧ receivesFollowGoodWrites tcRcTx.trace ∧ ∃ t, step tcRcTx = .next t ∧
    t.trace = tcRcTx.trace ++ [.txResp .ok, .receive 0x4A#8 3] := ⟨tcRcTx_inv, tcRcTx_receives, _, rfl, rfl⟩

theorem witness_ExecWritesOnlyItsRegisters :
    (∃ t, exec (.convert 0#16) (tc .idle []) = .next t) ∧ (∃ t, exec (.crc8 0#8 0#8) (tc .idle []) = .next t) ∧
    (∃ t, exec (.encode 0#16) (tc .idle []) = .next t) ∧ (∃ t, exec .resetDevice (tc .idle []) = .next t ∧ t.seq ≠ .idle) ∧
    (Instr.convert 0#16).op ≠ .parseFrame ∧ (Instr.convert 0#16).op ≠ .crc8 ∧ (Instr.convert 0#16).op ≠ .decode ∧
    (Instr.crc8 0#8 0#8).op ≠ .convert ∧ Instr.resetDevice.op ≠ .encode ∧ Instr.resetDevice.op ∉ [Op.writeCommand,
      .readCommand, .startMeasurement, .stopMeasurement, .readTemperature] := ⟨⟨_, rfl⟩, ⟨_, rfl⟩, ⟨_, rfl⟩, ⟨_, rfl,
      by decide⟩, by decide⟩

theorem witness_StatusWrittenOnlyAtCompletion :
    (∃ t, step (tc .wcTx [.txResp .fail]) = .next t ∧ t.status = .transportError) ∧
    (∃ t, step (tc .smTx [.txResp .ok]) = .next t ∧ t.seq = .smDly) ∧
    ∀ q r b rest, (tc q [.txResp r]).inputs ≠ .rst b :: rest := ⟨⟨_, rfl, rfl⟩, ⟨_, rfl, rfl⟩, by simp [tc]⟩

theorem witness_DataWrittenOnlyOnSuccess :
    (∃ t, step (tc .wcTx [.txResp .fail]) = .next t ∧ t.status ≠ .ok) ∧
    (∃ t, step (tc .smTx [.txResp .ok]) = .next t ∧ t.seq ≠ .idle) ∧
    ∀ q r b rest, (tc q [.txResp r]).inputs ≠ .rst b :: rest := ⟨⟨_, rfl, by decide⟩, ⟨_, rfl, by decide⟩, by simp [tc]⟩

theorem witness_AddressLoadedOnlyByRst :
    (∃ t, step (tc .rsDly1 [.rst 1#1]) = .next t) ∧ (tc .rsDly1 [.rst 1#1]).inputs = [.rst 1#1] ∧
    (∃ t, step (tc .rsDly1 [.delayDone]) = .next t) ∧
    ∀ b rest, (tc .rsDly1 [.delayDone]).inputs ≠ .rst b :: rest := ⟨⟨_, rfl⟩, rfl, ⟨_, rfl⟩, by simp [tc]⟩

theorem witness_MeasFollowsItsTable :
    (tc .smDly [.delayDone]).inputs = [.delayDone] ∧ (∀ b, InputEvent.delayDone ≠ .rst b) ∧
    ∃ t, step (tc .smDly [.delayDone]) = .next t ∧ t.meas = true := ⟨rfl, by simp, _, rfl, rfl⟩

theorem witness_ErrLatchHoldsWriteResult :
    (tc .spTx [.txResp .fail]).inputs = [.txResp .fail] ∧ (∀ b, InputEvent.txResp .fail ≠ .rst b) ∧
    ∃ t, step (tc .spTx [.txResp .fail]) = .next t ∧ t.errLatch = true := ⟨rfl, by simp, _, rfl, rfl⟩

theorem witness_TxBufWrittenOnlyByEncodeAndTransmit :
    (∃ t, step (tc .idle [.offer 0x3000000#28]) = .next t ∧ t.txBuf = ⟨0x30#8, 0x93#8⟩) ∧
    ∀ b rest, (tc .idle [.offer 0x3000000#28]).inputs ≠ .rst b :: rest := ⟨⟨_, rfl, by decide⟩, by simp [tc]⟩

theorem witness_BusRequestsCarryAddressAndBuffer :
    (∃ t, step tcRcTx = .next t ∧ t.trace = tcRcTx.trace ++ [.txResp .ok, .receive 0x4A#8 3]) ∧
    Event.receive 0x4A#8 3 ∈ [Event.txResp .ok, .receive 0x4A#8 3] ∧
    (∃ t, step (tc .idle [.offer 0x3000000#28]) = .next t ∧
      t.trace = (tc .idle [.offer 0x3000000#28]).trace ++ [.req 0x3#4 0#24, .transmit 0x4A#8 ⟨0x30#8, 0x93#8⟩]) ∧
    Event.transmit 0x4A#8 ⟨0x30#8, 0x93#8⟩ ∈ [Event.req 0x3#4 0#24, .transmit 0x4A#8 ⟨0x30#8, 0x93#8⟩] := ⟨⟨_, rfl, rfl⟩,
      by decide, ⟨_, rfl, by decide⟩, by decide⟩

theorem witness_StepConsumesInputAndExtendsTrace :
    (∃ t, step (tc .rtTx2 [.txResp .ok]) = .next t) ∧ ∃ t, step (tc .rtTx2 []) = .next t := ⟨⟨_, rfl⟩, _, rfl⟩

theorem witness_ChecksumSeesOneByteChanges :
    crc8 0xBE#8 0xEF#8 = 0x92#8 := by decide +kernel

theorem witness_CodecRoundTrip :
    (tc .idle []).seq = .idle := by decide

theorem witness_ExactTemperatureMap :
    (0#16 : Half).toNat < (0xFFFF#16 : Half).toNat := by decide

theorem witness_ScaleLaws :
    (0x41D3#16 : Half).toNat < (0x41D4#16 : Half).toNat ∧ (0xFFFE#16 : Half) ≠ 0xFFFF#16 ∧
    65535 ∣ 175 * (0x6666#16 : Half).toNat := by decide

theorem witness_PortsDetermineRegisters : outputs (tc .idle []) = outputs (tc .idle [.delayDone]) := by decide

/-- P4, its end: ERR_LATCH is readable, and the strap sampled as 1 is (R21). -/
theorem test_ports_show_latch_and_strap : (outputs { tc .idle [] with errLatch := true, addrSelQ := 1#1 }).errLatch = 1#1 ∧
    (outputs { tc .idle [] with errLatch := true, addrSelQ := 1#1 }).addrSelQ = 1#1 ∧
    (outputs { tc .idle [] with errLatch := true, addrSelQ := 1#1 }).devAddr = 0x4B#7 := by
  decide

/-- A checksum mismatch in RT_RX, as the ports show it: STATUS 2, STAGE 2 (R31, R32); and RT_TX2 is SEQ 12 (R28). -/
theorem test_ports_show_codes :
    (outputs { tc .idle [] with status := .checksumMismatch, stage := .fetch }).status = 2#3 ∧
    (outputs { tc .idle [] with status := .checksumMismatch, stage := .fetch }).stage = 2#2 ∧
    (outputs (tc .rtTx2 [])).seq = 12#4 ∧ (outputs (tc .rtTx2 [])).dataOut = 0x090A#16 := by
  decide

end Sys2Proof.Tests
end

/-! ## What a step does to the inputs and the trace (00_scope.md R11, R79) -/

section
namespace Sys2Proof.Machine

/-- `t` comes from `s` by work that takes no further input event and puts its events after those already traced: what every
operation of the core does once its own input event is off the list (R79). -/
structure OnlyAppends (s t : State) : Prop where
  inputs : t.inputs = s.inputs
  trace : s.trace <+: t.trace

theorem OnlyAppends.refl (s : State) : OnlyAppends s s := ⟨rfl, List.prefix_rfl⟩

theorem OnlyAppends.trans {s t u : State} (hst : OnlyAppends s t) (htu : OnlyAppends t u) : OnlyAppends s u :=
  ⟨htu.inputs.trans hst.inputs, hst.trace.trans htu.trace⟩

/-! ### The shared operations -/

theorem onlyAppends_emit (e : Event) (s : State) : OnlyAppends s (emit e s) := ⟨rfl, List.prefix_append _ _⟩

theorem onlyAppends_complete (st : Status) (sg : Stage) (s : State) : OnlyAppends s (complete st sg s) :=
  ⟨rfl, List.prefix_append _ _⟩

theorem onlyAppends_clearMeasIfFetch (s : State) : OnlyAppends s (clearMeasIfFetch s) := ⟨by simp, by simp⟩

theorem onlyAppends_garbleRxBuf (s : State) : OnlyAppends s (garbleRxBuf s) := ⟨rfl, List.prefix_rfl⟩

/-- What READ_TEMPERATURE does with a good frame before it completes (R158). -/
theorem onlyAppends_convertFrame (f : Frame) (s : State) :
    OnlyAppends s (setMeas false (writeTemp (scale (decodeData f.b0 f.b1)) s)) := ⟨rfl, List.prefix_rfl⟩

/-- The verify step only appends when its act on a match does; taking the frame in and writing the data trace nothing. -/
theorem onlyAppends_verifyStep {k : State → State} (hk : ∀ s, OnlyAppends s (k s)) (f : Frame) (sg : Stage) (s : State) :
    OnlyAppends s (verifyStep f sg k s) := by
  obtain ⟨_, hv⟩ | ⟨_, hv⟩ := verifyStep_cases f sg k s
  · have hwrite : OnlyAppends s (writeData (decodeData f.b0 f.b1) (takeFrame f s)) := ⟨rfl, List.prefix_rfl⟩
    rw [hv]
    exact (hwrite.trans (hk _)).trans (onlyAppends_complete _ _ _)
  · have htake : OnlyAppends s (takeFrame f s) := ⟨rfl, List.prefix_rfl⟩
    rw [hv]
    exact htake.trans (onlyAppends_complete _ _ _)

/-! ### The accepting steps and the answer events -/

theorem onlyAppends_acceptNext (i : Instr) (s : State) : OnlyAppends s (acceptNext i s) := by
  cases i
  case parseFrame b0 b1 b2 => exact onlyAppends_verifyStep OnlyAppends.refl _ _ s
  all_goals constructor <;> simp [acceptNext]

/-- A write's answer is traced, then whatever the wait state does with it. -/
theorem onlyAppends_of_onTxResp {r : TxAnswer} {s t : State} (h : onTxResp r s = .next t) : OnlyAppends s t := by
  refine (onlyAppends_emit (.txResp r) s).trans ?_
  obtain ⟨-, rfl⟩ | ⟨-, rfl⟩ | ⟨-, rfl⟩ | ⟨-, rfl⟩ | ⟨-, rfl⟩ | ⟨-, rfl⟩ := onTxResp_cases h
  · cases r <;> exact onlyAppends_complete _ _ _
  · cases r
    case ok => constructor <;> simp [rcTxStep]
    case fail => exact onlyAppends_complete _ _ _
  · constructor <;> simp [smTxStep]
  · constructor <;> simp [spTxStep]
  · constructor <;> simp [rtTx1Step]
  · cases r
    case ok => constructor <;> simp [rtTx2Step]
    case fail => exact onlyAppends_complete _ _ _

/-- A read's answer is traced, then a failed read completes at once and a frame goes through the verify step. -/
theorem onlyAppends_of_onRxResp {r : RxAnswer} {s t : State} (h : onRxResp r s = .next t) : OnlyAppends s t := by
  refine (onlyAppends_emit (.rxResp r) s).trans ?_
  obtain ⟨-, rfl⟩ | ⟨-, rfl⟩ := onRxResp_cases h
  · cases r
    case ok f => exact onlyAppends_verifyStep onlyAppends_clearMeasIfFetch f _ _
    case fail => exact (onlyAppends_garbleRxBuf _).trans (onlyAppends_complete _ _ _)
  · cases r
    case ok f => exact onlyAppends_verifyStep (onlyAppends_convertFrame f) f _ _
    case fail => exact (onlyAppends_garbleRxBuf _).trans (onlyAppends_complete _ _ _)

/-- The end of a delay is traced; the three steps that report a latched write result do so on both paths. -/
theorem onlyAppends_of_onDelayDone {s t : State} (h : onDelayDone s = .next t) : OnlyAppends s t := by
  refine (onlyAppends_emit .delayDone s).trans ?_
  obtain ⟨-, rfl⟩ | ⟨-, rfl⟩ | ⟨-, rfl⟩ | ⟨-, rfl⟩ | ⟨-, rfl⟩ := onDelayDone_cases h
  · unfold smDlyStep
    split <;> constructor <;> simp
  · unfold spDlyStep
    split <;> constructor <;> simp
  · constructor <;> simp [rsDly1Step]
  · constructor <;> simp [rsDly2Step]
  · unfold rtDlyStep
    split <;> constructor <;> simp

/-! ### One step -/

/-- Once the next input event, if there is one, is off the list, a step only appends (R11; with none the core waits, log entry 3). -/
theorem step_onlyAppends {s t : State} (h : step s = .next t) :
    OnlyAppends { s with inputs := s.inputs.tail } t := by
  obtain ⟨hi, rfl⟩ | ⟨w, rest, hi, -, rfl⟩ | ⟨w, rest, hi, -, rfl⟩ | ⟨r, rest, hi, hr⟩ | ⟨r, rest, hi, hr⟩ |
    ⟨rest, hi, hr⟩ | ⟨b, rest, hi, rfl⟩ := step_cases h <;> simp only [hi, List.tail_nil, List.tail_cons]
  · exact ⟨hi, List.prefix_rfl⟩
  · exact (onlyAppends_emit _ _).trans (onlyAppends_acceptNext _ _)
  · exact .refl _
  · exact onlyAppends_of_onTxResp hr
  · exact onlyAppends_of_onRxResp hr
  · exact onlyAppends_of_onDelayDone hr
  · exact ⟨rfl, List.prefix_append _ _⟩

end Sys2Proof.Machine

namespace Sys2Proof

open Sys2Proof.Machine

/-- Settles O48: `step_onlyAppends`, the prefix read as the old trace with the new events after it. -/
theorem stepConsumesInputAndExtendsTrace : Obligations.StepConsumesInputAndExtendsTrace := by
  intro s t h
  obtain ⟨hinputs, new, htrace⟩ := step_onlyAppends h
  exact ⟨hinputs, new, htrace.symm⟩

end Sys2Proof
end

/-! ## How a step ends (10_state.md R28, R31, R37; 60_exceptions.md R184)

A step waits, or goes on with its operation, or completes it, or is `rst`. `step_outcome` says so once, with all that the statements
about SEQ, STATUS, the data registers and the invariant need to know of each. -/

section
namespace Sys2Proof.Machine

@[simp] theorem doneCount_append (a b : List Event) : doneCount (a ++ b) = doneCount a + doneCount b := by
  induction a with
  | nil => simp [doneCount]
  | cons e a ih => cases e <;> simp [doneCount, ih, Nat.add_assoc]

/-! ### Going on and completing -/

/-- From `s` to `t` the results are left alone: STATUS, STAGE and the data registers are as they were, and no `Done` was traced. -/
structure Quiet (s t : State) : Prop where
  status : t.status = s.status := by rfl
  stage : t.stage = s.stage := by rfl
  dataOut : t.dataOut = s.dataOut := by rfl
  tempOut : t.tempOut = s.tempOut := by rfl
  trace : ∃ new, t.trace = s.trace ++ new ∧ doneCount new = 0

theorem Quiet.doneCount_eq {s t : State} (h : Quiet s t) : doneCount t.trace = doneCount s.trace := by
  obtain ⟨new, htrace, hnew⟩ := h.trace
  simp [htrace, hnew]

/-- The step from `s` to `t` begins an operation or goes on with it: `t` waits for the answer to a request just made. -/
structure GoesOn (s t : State) : Prop extends Quiet s t where
  busy : t.seq ≠ .idle
  sameOp : s.seq = .idle ∨ seqOp t.seq = seqOp s.seq
  request : requestInFlight t
  command : commandInFlight s → commandInFlight t

/-- The step from `s` to `t` ends an operation, with its one `Done` last; only a success writes a data register (R184, R185). -/
structure Completes (s t : State) : Prop where
  idle : t.seq = .idle
  trace : ∃ new, t.trace = s.trace ++ new ++ [.done t.status t.stage] ∧ doneCount new = 0
  fits : stageFitsStatus t
  data : t.status ≠ .ok → t.dataOut = s.dataOut ∧ t.tempOut = s.tempOut

/-- From IDLE an operation begins with the command of its own in flight, whatever was in flight before. -/
theorem goesOn_of_idle {s t : State} (hs : s.seq = .idle) (hquiet : Quiet s t) (hbusy : t.seq ≠ .idle)
    (hrequest : requestInFlight t) (hcommand : commandInFlight t) : GoesOn s t where
  toQuiet := hquiet
  busy := hbusy
  sameOp := .inl hs
  request := hrequest
  command := fun _ => hcommand

/-- An answer moves an operation on from the wait state `q`; `goto q s` is `s` with the wait state it is in written out. -/
theorem goesOn_of_answer {s t : State} {q : Machine.Seq} (hs : s.seq = q) (hquiet : Quiet s t) (hbusy : t.seq ≠ .idle)
    (hop : seqOp t.seq = seqOp q) (hrequest : requestInFlight t) (hcommand : commandInFlight (goto q s) → commandInFlight t) :
    GoesOn s t := by
  subst hs
  exact { toQuiet := hquiet, busy := hbusy, sameOp := .inr hop, request := hrequest, command := hcommand }

/-- Success leaves no stage, so the two always fit; the work before it may have written any register. -/
theorem completes_ok {s u : State} {e : Event} (htrace : u.trace = s.trace ++ [e]) (he : doneCount [e] = 0) :
    Completes s (complete .ok .none u) where
  idle := rfl
  trace := ⟨[e], by simp [htrace], he⟩
  fits := trivial
  data := fun hok => absurd rfl hok

/-- An end of any status, after work that wrote no data register. -/
theorem completes_of_data_kept {s u : State} {e : Event} {st : Status} {sg : Stage} (htrace : u.trace = s.trace ++ [e])
    (he : doneCount [e] = 0) (hdata : u.dataOut = s.dataOut) (htemp : u.tempOut = s.tempOut)
    (hfits : stageFitsStatus (complete st sg u)) : Completes s (complete st sg u) where
  idle := rfl
  trace := ⟨[e], by simp [htrace], he⟩
  fits := hfits
  data := fun _ => ⟨hdata, htemp⟩

/-- The verify step ends its operation on a good frame and on a bad one. -/
theorem completes_verifyStep {s : State} {e : Event} {sg : Stage} {k : State → State} (f : Frame) (he : doneCount [e] = 0)
    (hk : ∀ u, (k u).trace = u.trace) (hfits : ∀ u, stageFitsStatus (complete .checksumMismatch sg u)) :
    Completes s (verifyStep f sg k (emit e s)) := by
  obtain ⟨-, hv⟩ | ⟨-, hv⟩ := verifyStep_cases f sg k (emit e s) <;> rw [hv]
  · exact completes_ok (hk _) he
  · exact completes_of_data_kept rfl he rfl rfl (hfits _)

/-! ### The accepting steps and the answer events -/

/-- The six protocol operations make their first request; the others complete at once. -/
theorem acceptNext_goesOn_or_completes {s : State} (hs : s.seq = .idle) (i : Instr) (op : BitVec 4) (arg : Arg) :
    GoesOn s (acceptNext i (emit (.req op arg) s)) ∨ Completes s (acceptNext i (emit (.req op arg) s)) := by
  cases i
  case writeCommand | readCommand | startMeasurement =>
    exact .inl (goesOn_of_idle hs { trace := ⟨_, List.append_assoc .., rfl⟩ } nofun ⟨_, rfl⟩ rfl)
  case stopMeasurement | readTemperature =>
    exact .inl (goesOn_of_idle hs { trace := ⟨_, List.append_assoc .., rfl⟩ } nofun ⟨_, rfl⟩ ⟨rfl, rfl⟩)
  case resetDevice =>
    have htrace : (acceptNext .resetDevice (emit (.req op arg) s)).trace =
        (s.trace ++ [.req op arg]) ++ [.setPin s.params.resetPin .low, .delay 1] := List.append_assoc ..
    exact .inl (goesOn_of_idle hs { trace := ⟨_, htrace.trans (List.append_assoc ..), rfl⟩ } nofun ⟨_, htrace⟩ trivial)
  case crc8 | encode | decode | convert => exact .inr (completes_ok rfl rfl)
  case parseFrame => exact .inr (completes_verifyStep _ rfl (fun _ => rfl) fun _ => trivial)
  case reservedB | reservedC | reservedD | reservedE | reservedF =>
    exact .inr (completes_of_data_kept rfl rfl rfl rfl trivial)

/-- A write's answer: the two reads ask for their frame if it is good, the three writes with a delay start it either way, and
every other answer ends its operation. -/
theorem onTxResp_goesOn_or_completes {r : TxAnswer} {s t : State} (h : onTxResp r s = .next t) :
    GoesOn s t ∨ Completes s t := by
  obtain ⟨hq, rfl⟩ | ⟨hq, rfl⟩ | ⟨hq, rfl⟩ | ⟨hq, rfl⟩ | ⟨hq, rfl⟩ | ⟨hq, rfl⟩ := onTxResp_cases h
  · cases r
    case ok => exact .inr (completes_ok rfl rfl)
    case fail => exact .inr (completes_of_data_kept rfl rfl rfl rfl trivial)
  · cases r
    case ok => exact .inl (goesOn_of_answer hq { trace := ⟨_, List.append_assoc .., rfl⟩ } nofun rfl ⟨_, rfl⟩ id)
    case fail => exact .inr (completes_of_data_kept rfl rfl rfl rfl trivial)
  · exact .inl (goesOn_of_answer hq { trace := ⟨_, List.append_assoc .., rfl⟩ } nofun rfl ⟨_, rfl⟩ id)
  · exact .inl (goesOn_of_answer hq { trace := ⟨_, List.append_assoc .., rfl⟩ } nofun rfl ⟨_, rfl⟩ id)
  · exact .inl (goesOn_of_answer hq { trace := ⟨_, List.append_assoc .., rfl⟩ } nofun rfl ⟨_, rfl⟩ id)
  · cases r
    case ok => exact .inl (goesOn_of_answer hq { trace := ⟨_, List.append_assoc .., rfl⟩ } nofun rfl ⟨_, rfl⟩ id)
    case fail => exact .inr (completes_of_data_kept rfl rfl rfl rfl (.inl rfl))

/-- A read's answer ends its operation, the frame being good, bad or missing. -/
theorem onRxResp_completes {r : RxAnswer} {s t : State} (h : onRxResp r s = .next t) : Completes s t := by
  obtain ⟨-, rfl⟩ | ⟨-, rfl⟩ := onRxResp_cases h <;> cases r
  case inl.ok f => exact completes_verifyStep f rfl clearMeasIfFetch_trace fun _ => trivial
  case inl.fail => exact completes_of_data_kept rfl rfl rfl rfl trivial
  case inr.ok f =>
    unfold rtRxStep
    exact completes_verifyStep f rfl (fun _ => rfl) fun _ => .inr rfl
  case inr.fail => exact completes_of_data_kept rfl rfl rfl rfl (.inl rfl)

/-- The end of a delay: RESET_DEVICE has a second delay, a good start stage is followed by the fetch command, and every other ends
its operation. -/
theorem onDelayDone_goesOn_or_completes {s t : State} (h : onDelayDone s = .next t) : GoesOn s t ∨ Completes s t := by
  obtain ⟨-, rfl⟩ | ⟨-, rfl⟩ | ⟨hq, rfl⟩ | ⟨-, rfl⟩ | ⟨hq, rfl⟩ := onDelayDone_cases h
  · unfold smDlyStep
    split
    · exact .inr (completes_of_data_kept rfl rfl rfl rfl trivial)
    · exact .inr (completes_ok rfl rfl)
  · unfold spDlyStep
    split
    · exact .inr (completes_of_data_kept rfl rfl rfl rfl trivial)
    · exact .inr (completes_ok rfl rfl)
  · have htrace : (rsDly1Step (emit .delayDone s)).trace =
        (s.trace ++ [.delayDone]) ++ [.setPin s.params.resetPin .high, .delay 100] := List.append_assoc ..
    exact .inl (goesOn_of_answer hq { trace := ⟨_, htrace.trans (List.append_assoc ..), rfl⟩ } nofun rfl ⟨_, htrace⟩ id)
  · exact .inr (completes_ok rfl rfl)
  · unfold rtDlyStep
    split
    case isTrue => exact .inr (completes_of_data_kept rfl rfl rfl rfl rfl)
    case isFalse hgood =>
      have hlatch : s.errLatch = false := by simpa using hgood
      exact .inl (goesOn_of_answer hq { trace := ⟨_, List.append_assoc .., rfl⟩ } nofun rfl ⟨_, rfl⟩
        fun _ => ⟨rfl, rfl, rfl, hlatch⟩)

/-! ### One step -/

/-- Everything a step can do to the operation in progress, once the next input event, if there is one, is off the list. -/
theorem step_outcome {s t : State} (h : step s = .next t) :
    t = { s with inputs := s.inputs.tail } ∨ GoesOn { s with inputs := s.inputs.tail } t ∨
    Completes { s with inputs := s.inputs.tail } t ∨
    (∃ b rest, s.inputs = .rst b :: rest ∧ t = applyRst b { s with inputs := rest }) := by
  obtain ⟨hi, rfl⟩ | ⟨w, rest, hi, hs, rfl⟩ | ⟨w, rest, hi, -, rfl⟩ | ⟨r, rest, hi, hr⟩ | ⟨r, rest, hi, hr⟩ |
    ⟨rest, hi, hr⟩ | ⟨b, rest, hi, rfl⟩ := step_cases h <;> rw [hi]
  · exact .inl (by rw [List.tail_nil, ← hi])
  · exact .inr ((acceptNext_goesOn_or_completes (s := { s with inputs := rest }) hs _ _ _).imp_right .inl)
  · exact .inl rfl
  · exact .inr ((onTxResp_goesOn_or_completes hr).imp_right .inl)
  · exact .inr (.inr (.inl (onRxResp_completes hr)))
  · exact .inr ((onDelayDone_goesOn_or_completes hr).imp_right .inl)
  · exact .inr (.inr (.inr ⟨b, rest, rfl, rfl⟩))

/-! ### The invariant -/

/-- What a step goes on with is in flight, and the stage of the last completion still fits its status. -/
theorem GoesOn.inv {s t : State} (h : GoesOn s t) (hs : Inv s) : Inv t := by
  obtain ⟨-, hcommand, hfits⟩ := hs
  refine ⟨h.request, h.command hcommand, ?_⟩
  unfold stageFitsStatus
  rw [h.stage, h.status]
  exact hfits

/-- A completion needs nothing of the state before it: nothing is in flight in IDLE. -/
theorem Completes.inv {s t : State} (h : Completes s t) : Inv t := by
  obtain ⟨new, htrace, -⟩ := h.trace
  refine ⟨?_, ?_, h.fits⟩
  · simp only [requestInFlight, h.idle]
    exact .inr (.inl ⟨_, htrace⟩)
  · simp only [commandInFlight, h.idle]

/-- Nor does `rst`. -/
theorem inv_applyRst (b : BitVec 1) (s : State) : Inv (applyRst b s) :=
  ⟨.inr (.inr ⟨_, _, rfl⟩), trivial, trivial⟩

end Sys2Proof.Machine

namespace Sys2Proof

open Sys2Proof.Machine

/-- Settles O36: each outcome of a step has the invariant; the input list, all that waiting changes, is no part of it. -/
theorem invKeptByEveryStep : Obligations.InvKeptByEveryStep := by
  intro s t hs h
  obtain rfl | hon | hend | ⟨b, rest, -, rfl⟩ := step_outcome h
  · exact hs
  · exact hon.inv hs
  · exact hend.inv
  · exact inv_applyRst _ _

/-- Settles O33: an operation is left only by its completion or by `rst`, both to IDLE. -/
theorem sequencerStaysInOperation : Obligations.SequencerStaysInOperation := by
  intro s t h
  obtain rfl | hon | hend | ⟨b, rest, -, rfl⟩ := step_outcome h
  · exact .inr (.inr rfl)
  · exact hon.sameOp.imp_right .inr
  · exact .inr (.inl hend.idle)
  · exact .inr (.inl rfl)

/-- Settles O40: a step that waits or goes on is quiet, and one that completes traces its `Done`. -/
theorem statusWrittenOnlyAtCompletion : Obligations.StatusWrittenOnlyAtCompletion := by
  intro s t h hrst
  obtain rfl | hon | hend | ⟨b, rest, hi, -⟩ := step_outcome h
  · exact .inl ⟨rfl, rfl, rfl, .inl rfl⟩
  · exact .inl ⟨hon.status, hon.stage, hon.doneCount_eq, .inr hon.busy⟩
  · exact .inr ⟨hend.idle, hend.trace⟩
  · exact absurd hi (hrst b rest)

/-- Settles O41: of the steps that do not go on, only one that completes with another status than OK is left. -/
theorem dataWrittenOnlyOnSuccess : Obligations.DataWrittenOnlyOnSuccess := by
  intro s t h hrst hnot
  obtain rfl | hon | hend | ⟨b, rest, hi, -⟩ := step_outcome h
  · exact ⟨rfl, rfl⟩
  · exact ⟨hon.dataOut, hon.tempOut⟩
  · exact hend.data (hnot.resolve_left fun hbusy => hbusy hend.idle)
  · exact absurd hi (hrst b rest)

end Sys2Proof
end

/-! ## Which answers a step takes (20_memory.md R68) -/

section
namespace Sys2Proof.Machine

/-- The environment keeps its duty with an offer, with `rst` and with the awaited answer. -/
theorem admitted_iff {q : Machine.Seq} {e : InputEvent} :
    admitted q e = true ↔ answerKind e = none ∨ awaits q = answerKind e := by
  cases hk : answerKind e <;> cases hq : awaits q <;> simp [admitted, answers, hk, hq]

theorem onTxResp_next_or_fault (r : TxAnswer) (s : State) :
    (awaits s.seq = some .txResp ∧ ∃ t, onTxResp r s = .next t) ∨
    (awaits s.seq ≠ some .txResp ∧ ∃ f, onTxResp r s = .fault f) := by
  cases hq : s.seq <;> simp [onTxResp, awaits, hq]

theorem onRxResp_next_or_fault (r : RxAnswer) (s : State) :
    (awaits s.seq = some .rxResp ∧ ∃ t, onRxResp r s = .next t) ∨
    (awaits s.seq ≠ some .rxResp ∧ ∃ f, onRxResp r s = .fault f) := by
  cases hq : s.seq <;> simp [onRxResp, awaits, hq]

theorem onDelayDone_next_or_fault (s : State) :
    (awaits s.seq = some .delayDone ∧ ∃ t, onDelayDone s = .next t) ∨
    (awaits s.seq ≠ some .delayDone ∧ ∃ f, onDelayDone s = .fault f) := by
  cases hq : s.seq <;> simp [onDelayDone, awaits, hq]

/-- An offer has a step in every state: it is accepted in IDLE and dropped elsewhere (R92). -/
theorem onOffer_next (w : Req) (s : State) : ∃ t, onOffer w s = .next t := by
  by_cases hs : s.seq = .idle
  · exact ⟨_, onOffer_of_idle hs⟩
  · exact ⟨_, onOffer_of_busy hs⟩

/-- The core has a step for every event that its environment's duty admits, and stops with a fault on every other. -/
theorem react_next_or_fault (e : InputEvent) (s : State) :
    (admitted s.seq e = true ∧ ∃ t, react e s = .next t) ∨ (¬ admitted s.seq e = true ∧ ∃ f, react e s = .fault f) := by
  rw [admitted_iff]
  cases e with
  | offer w => exact .inl ⟨.inl rfl, onOffer_next w s⟩
  | txResp r => simpa only [react, answerKind, reduceCtorEq, false_or, ne_eq] using onTxResp_next_or_fault r s
  | rxResp r => simpa only [react, answerKind, reduceCtorEq, false_or, ne_eq] using onRxResp_next_or_fault r s
  | delayDone => simpa only [react, answerKind, reduceCtorEq, false_or, ne_eq] using onDelayDone_next_or_fault s
  | rst b => exact .inl ⟨.inl rfl, _, rfl⟩

end Sys2Proof.Machine

namespace Sys2Proof

open Sys2Proof.Machine

/-- Settles O31: with an input event the step is the reaction to it, which `admitted` decides; without one the core waits. -/
theorem stepFaultsExactlyOnUnaskedAnswers : Obligations.StepFaultsExactlyOnUnaskedAnswers := by
  intro s
  cases hi : s.inputs with
  | nil => simp [step_of_no_input hi]
  | cons e rest =>
    rw [step_of_input hi]
    obtain ⟨hadm, t, ht⟩ | ⟨hadm, f, hf⟩ := react_next_or_fault e { s with inputs := rest }
    · simp [ht, hadm]
    · simp [hf, hadm]

end Sys2Proof
end

/-! ## The registers that follow a table (10_state.md R20, R33, R34, R36) -/

section
namespace Sys2Proof.Machine

/-- From `s` to `t` the event `e` writes MEAS and ERR_LATCH as their tables say, and neither ADDR_SEL_Q nor a parameter. -/
structure FollowsTables (e : InputEvent) (s t : State) : Prop where
  params : t.params = s.params
  addrSelQ : t.addrSelQ = s.addrSelQ
  meas : t.meas = measAfter s e
  errLatch : t.errLatch = errLatchAfter s e

/-- An offer is in neither table. -/
theorem followsTables_of_kept {w : Req} {s t : State} (hparams : t.params = s.params) (haddr : t.addrSelQ = s.addrSelQ)
    (hmeas : t.meas = s.meas) (hlatch : t.errLatch = s.errLatch) : FollowsTables (.offer w) s t where
  params := hparams
  addrSelQ := haddr
  meas := by simp [measAfter, hmeas]
  errLatch := by simp [errLatchAfter, hlatch]

/-- No accepting step writes any of these registers (R39). -/
theorem acceptNext_followsTables (w : Req) (i : Instr) (e : Event) (s : State) :
    FollowsTables (.offer w) s (acceptNext i (emit e s)) := by
  cases i
  case parseFrame b0 b1 b2 =>
    obtain ⟨-, hv⟩ | ⟨-, hv⟩ := verifyStep_cases ⟨b0, b1, b2⟩ .none id (emit e s) <;> rw [acceptNext, hv]
    all_goals exact followsTables_of_kept rfl rfl rfl rfl
  all_goals exact followsTables_of_kept rfl rfl rfl rfl

/-- The three writes that a delay follows latch their answer; no write's answer touches MEAS. -/
theorem onTxResp_followsTables {r : TxAnswer} {s t : State} (h : onTxResp r s = .next t) :
    FollowsTables (.txResp r) s t := by
  obtain ⟨hq, rfl⟩ | ⟨hq, rfl⟩ | ⟨hq, rfl⟩ | ⟨hq, rfl⟩ | ⟨hq, rfl⟩ | ⟨hq, rfl⟩ := onTxResp_cases h
  all_goals cases r <;> constructor <;>
    simp [wcTxStep, rcTxStep, smTxStep, spTxStep, rtTx1Step, rtTx2Step, measAfter, errLatchAfter, hq]

/-- A good frame clears MEAS: always for READ_TEMPERATURE, for READ_COMMAND if it sent the fetch command. -/
theorem onRxResp_followsTables {r : RxAnswer} {s t : State} (h : onRxResp r s = .next t) :
    FollowsTables (.rxResp r) s t := by
  obtain ⟨hq, rfl⟩ | ⟨hq, rfl⟩ := onRxResp_cases h <;> cases r
  case inl.ok f =>
    unfold rcRxStep
    by_cases hc : crc8 f.b0 f.b1 = f.b2
    · simp only [verifyStep_match f hc]
      by_cases hfetch : s.cmdReg = s.params.cmdFetchData <;> constructor <;>
        simp [measAfter, errLatchAfter, hq, hc, hfetch]
    · simp only [verifyStep_mismatch f hc]
      constructor <;> simp [measAfter, errLatchAfter, hq, hc]
  case inr.ok f =>
    unfold rtRxStep
    by_cases hc : crc8 f.b0 f.b1 = f.b2
    · simp only [verifyStep_match f hc]
      constructor <;> simp [measAfter, errLatchAfter, hq, hc]
    · simp only [verifyStep_mismatch f hc]
      constructor <;> simp [measAfter, errLatchAfter, hq, hc]
  case inl.fail | inr.fail => constructor <;> simp [rcRxStep, rtRxStep, measAfter, errLatchAfter, hq]

/-- The end of a delay reads ERR_LATCH in three wait states, and MEAS follows it. -/
theorem onDelayDone_followsTables {s t : State} (h : onDelayDone s = .next t) : FollowsTables .delayDone s t := by
  obtain ⟨hq, rfl⟩ | ⟨hq, rfl⟩ | ⟨hq, rfl⟩ | ⟨hq, rfl⟩ | ⟨hq, rfl⟩ := onDelayDone_cases h <;> cases hlatch : s.errLatch
  all_goals constructor <;>
    simp [smDlyStep, spDlyStep, rsDly1Step, rsDly2Step, rtDlyStep, measAfter, errLatchAfter, hq, hlatch]

/-- A step that takes another event than `rst` follows the tables. -/
theorem step_followsTables {s t : State} {e : InputEvent} {rest : List InputEvent} (hi : s.inputs = e :: rest)
    (hrst : ∀ b, e ≠ .rst b) (h : step s = .next t) : FollowsTables e { s with inputs := rest } t := by
  rw [step_of_input hi] at h
  cases e with
  | offer w =>
    obtain ⟨hs, hexec⟩ | ⟨-, rfl⟩ := onOffer_cases h
    · rw [exec_of_idle _ (by exact hs)] at hexec
      cases hexec
      exact acceptNext_followsTables ..
    · exact followsTables_of_kept rfl rfl rfl rfl
  | txResp r => exact onTxResp_followsTables h
  | rxResp r => exact onRxResp_followsTables h
  | delayDone => exact onDelayDone_followsTables h
  | rst b => exact absurd rfl (hrst b)

end Sys2Proof.Machine

namespace Sys2Proof

open Sys2Proof.Machine

/-- Settles O42: `rst` loads the strap by its definition; every other event follows the tables, and waiting changes nothing. -/
theorem addressLoadedOnlyByRst : Obligations.AddressLoadedOnlyByRst := by
  intro s t h
  by_cases hrst : ∃ b rest, s.inputs = .rst b :: rest
  · obtain ⟨b, rest, hi⟩ := hrst
    rw [step_of_input hi] at h
    cases h
    refine ⟨rfl, fun b' rest' hi' => ?_, fun hnot => absurd hi (hnot b rest)⟩
    cases hi.symm.trans hi'
    rfl
  · obtain ⟨hparams, haddr⟩ : t.params = s.params ∧ t.addrSelQ = s.addrSelQ := by
      cases hi : s.inputs with
      | nil =>
        rw [step_of_no_input hi] at h
        cases h
        exact ⟨rfl, rfl⟩
      | cons e rest =>
        have htables := step_followsTables hi (fun b he => hrst ⟨b, rest, he ▸ hi⟩) h
        exact ⟨htables.params, htables.addrSelQ⟩
    exact ⟨hparams, fun b rest hi => absurd ⟨b, rest, hi⟩ hrst, fun _ => haddr⟩

/-- Settles O43: the input list is in no row of the table of MEAS. -/
theorem measFollowsItsTable : Obligations.MeasFollowsItsTable :=
  fun _ _ _ _ hi hrst h => (step_followsTables hi hrst h).meas

/-- Settles O44, as O43. -/
theorem errLatchHoldsWriteResult : Obligations.ErrLatchHoldsWriteResult :=
  fun _ _ _ _ hi hrst h => (step_followsTables hi hrst h).errLatch

end Sys2Proof
end

/-! ## TXBUF (10_state.md R23) -/

section
namespace Sys2Proof.Machine

/-- From `s` to `t` TXBUF is left alone, or the last event transmits what was written to it. -/
def TxBufKeptOrSent (s t : State) : Prop :=
  t.txBuf = s.txBuf ∨ ∃ pre a, t.trace = s.trace ++ pre ++ [.transmit a t.txBuf]

/-- A command sent after one event of the step. -/
theorem txBufKeptOrSent_send {s u : State} {e : Event} (htrace : u.trace = s.trace ++ [e]) (q : Machine.Seq) (c : Half) :
    TxBufKeptOrSent s (goto q (send c u)) :=
  .inr ⟨[e], busAddr u, by simp [htrace]⟩

theorem verifyStep_txBuf {k : State → State} (hk : ∀ u, (k u).txBuf = u.txBuf) (f : Frame) (sg : Stage) (s : State) :
    (verifyStep f sg k s).txBuf = s.txBuf := by
  obtain ⟨-, hv⟩ | ⟨-, hv⟩ := verifyStep_cases f sg k s <;> simp [hv, hk]

/-- Of the operations that do not transmit, only ENCODE writes TXBUF in its accepting step. -/
theorem acceptNext_txBuf (i : Instr) (e : Event) (s : State) :
    i.op = .encode ∨ TxBufKeptOrSent s (acceptNext i (emit e s)) := by
  cases i
  case encode => exact .inl rfl
  case writeCommand | readCommand | startMeasurement | stopMeasurement | readTemperature =>
    exact .inr (txBufKeptOrSent_send rfl _ _)
  case parseFrame => exact .inr (.inl (verifyStep_txBuf (fun _ => rfl) ..))
  all_goals exact .inr (.inl rfl)

theorem onTxResp_txBuf {r : TxAnswer} {s t : State} (h : onTxResp r s = .next t) : t.txBuf = s.txBuf := by
  obtain ⟨-, rfl⟩ | ⟨-, rfl⟩ | ⟨-, rfl⟩ | ⟨-, rfl⟩ | ⟨-, rfl⟩ | ⟨-, rfl⟩ := onTxResp_cases h <;> cases r <;> rfl

theorem onRxResp_txBuf {r : RxAnswer} {s t : State} (h : onRxResp r s = .next t) : t.txBuf = s.txBuf := by
  obtain ⟨-, rfl⟩ | ⟨-, rfl⟩ := onRxResp_cases h <;> cases r
  case inl.ok f => exact verifyStep_txBuf clearMeasIfFetch_txBuf f _ _
  case inr.ok f =>
    refine verifyStep_txBuf ?_ f _ _
    exact fun _ => rfl
  case inl.fail | inr.fail => rfl

/-- Only READ_TEMPERATURE transmits after a delay: the fetch command (R156). -/
theorem onDelayDone_txBuf {s t : State} (h : onDelayDone s = .next t) : TxBufKeptOrSent s t := by
  obtain ⟨-, rfl⟩ | ⟨-, rfl⟩ | ⟨-, rfl⟩ | ⟨-, rfl⟩ | ⟨-, rfl⟩ := onDelayDone_cases h
  · exact .inl (by unfold smDlyStep; split <;> rfl)
  · exact .inl (by unfold spDlyStep; split <;> rfl)
  · exact .inl rfl
  · exact .inl rfl
  · unfold rtDlyStep
    split
    · exact .inl rfl
    · exact txBufKeptOrSent_send rfl _ _

end Sys2Proof.Machine

namespace Sys2Proof

open Sys2Proof.Machine

/-- Settles O46: what each of the events that a step takes does to TXBUF. -/
theorem txBufWrittenOnlyByEncodeAndTransmit : Obligations.TxBufWrittenOnlyByEncodeAndTransmit := by
  intro s t h hrst
  obtain ⟨-, rfl⟩ | ⟨w, rest, hi, -, rfl⟩ | ⟨w, rest, -, -, rfl⟩ | ⟨r, rest, -, hr⟩ | ⟨r, rest, -, hr⟩ | ⟨rest, -, hr⟩ |
    ⟨b, rest, hi, -⟩ := step_cases h
  · exact .inl rfl
  · obtain hencode | hkept | hsent := acceptNext_txBuf (decode w) (.req (opField w) (argField w)) { s with inputs := rest }
    · exact .inr (.inl ⟨w, rest, hi, hencode⟩)
    · exact .inl hkept
    · exact .inr (.inr hsent)
  · exact .inl rfl
  · exact .inl (onTxResp_txBuf (s := { s with inputs := rest }) hr)
  · exact .inl (onRxResp_txBuf (s := { s with inputs := rest }) hr)
  · exact (onDelayDone_txBuf hr).imp_right .inr
  · exact absurd hi (hrst b rest)

end Sys2Proof
end

/-! ## Reset values and ports (10_state.md R21, R28, R30 to R32, R35) -/

section
namespace Sys2Proof.Machine

theorem outputs_seq_eq_iff (s : State) (q : Machine.Seq) : (outputs s).seq = seqCode q ↔ s.seq = q :=
  seqCode_injective.eq_iff

theorem outputs_status_eq_iff (s : State) (x : Status) : (outputs s).status = statusCode x ↔ s.status = x :=
  statusCode_injective.eq_iff

theorem outputs_stage_eq_iff (s : State) (x : Stage) : (outputs s).stage = stageCode x ↔ s.stage = x :=
  stageCode_injective.eq_iff

theorem outputs_ready_eq_one (s : State) : (outputs s).ready = 1#1 ↔ s.seq = .idle :=
  (ofBool_eq_one _).trans (ready_eq_true s)

theorem outputs_busy_eq_one (s : State) : (outputs s).busy = 1#1 ↔ s.seq ≠ .idle :=
  (ofBool_eq_one _).trans decide_eq_true_iff

theorem outputs_crcOk_eq_one (s : State) : (outputs s).crcOk = 1#1 ↔ s.crcReg = s.rxBuf.b2 :=
  (ofBool_eq_one _).trans beq_iff_eq

theorem outputs_meas_eq_one (s : State) : (outputs s).meas = 1#1 ↔ s.meas = true :=
  ofBool_eq_one _

theorem outputs_errLatch_eq_one (s : State) : (outputs s).errLatch = 1#1 ↔ s.errLatch = true :=
  ofBool_eq_one _

/-! ### The byte buffers, by their bytes -/

theorem outputs_txBuf_b0 (s : State) : (outputs s).txBuf.extractLsb' 8 8 = s.txBuf.b0 :=
  BitVec.extractLsb'_append_eq_left

theorem outputs_txBuf_b1 (s : State) : (outputs s).txBuf.extractLsb' 0 8 = s.txBuf.b1 :=
  BitVec.extractLsb'_append_eq_right

theorem outputs_rxBuf_b0 (s : State) : (outputs s).rxBuf.extractLsb' 16 8 = s.rxBuf.b0 :=
  argHigh_append ..

theorem outputs_rxBuf_b1 (s : State) : (outputs s).rxBuf.extractLsb' 8 8 = s.rxBuf.b1 :=
  argMid_append ..

theorem outputs_rxBuf_b2 (s : State) : (outputs s).rxBuf.extractLsb' 0 8 = s.rxBuf.b2 :=
  argLow_append ..

/-- The port of TXBUF shows both of its bytes. -/
theorem txBuf_eq_of_outputs {s t : State} (h : (outputs s).txBuf = (outputs t).txBuf) : s.txBuf = t.txBuf := by
  have h0 : s.txBuf.b0 = t.txBuf.b0 := by rw [← outputs_txBuf_b0, h, outputs_txBuf_b0]
  have h1 : s.txBuf.b1 = t.txBuf.b1 := by rw [← outputs_txBuf_b1, h, outputs_txBuf_b1]
  exact congrArg₂ CmdBytes.mk h0 h1

/-- The port of RXBUF shows all three of its bytes. -/
theorem rxBuf_eq_of_outputs {s t : State} (h : (outputs s).rxBuf = (outputs t).rxBuf) : s.rxBuf = t.rxBuf := by
  have h0 : s.rxBuf.b0 = t.rxBuf.b0 := by rw [← outputs_rxBuf_b0, h, outputs_rxBuf_b0]
  have h1 : s.rxBuf.b1 = t.rxBuf.b1 := by rw [← outputs_rxBuf_b1, h, outputs_rxBuf_b1]
  have h2 : s.rxBuf.b2 = t.rxBuf.b2 := by rw [← outputs_rxBuf_b2, h, outputs_rxBuf_b2]
  calc s.rxBuf
    _ = ⟨t.rxBuf.b0, t.rxBuf.b1, t.rxBuf.b2⟩ := by rw [← h0, ← h1, ← h2]
    _ = t.rxBuf := rfl

end Sys2Proof.Machine

namespace Sys2Proof

open Sys2Proof.Machine

/-- Settles O30: the fields of `State.reset` and the codes of IDLE, OK and NONE. -/
theorem resetStateHasStatedValues : Obligations.ResetStateHasStatedValues :=
  ⟨rfl, rfl, rfl, rfl, rfl, rfl⟩

/-- Settles O50: port by port, the codes being injective and DEV_ADDR an OR into a zero bit. -/
theorem portsShowRegisters : Obligations.PortsShowRegisters := fun s =>
  ⟨outputs_ready_eq_one s, outputs_busy_eq_one s, outputs_crcOk_eq_one s, rfl,
    outputs_rxBuf_b0 s, outputs_rxBuf_b1 s, outputs_rxBuf_b2 s,
    outputs_status_eq_iff s .ok, outputs_status_eq_iff s .transportError, outputs_status_eq_iff s .checksumMismatch,
    outputs_status_eq_iff s .illegalOp,
    outputs_stage_eq_iff s .none, outputs_stage_eq_iff s .start, outputs_stage_eq_iff s .fetch,
    outputs_seq_eq_iff s .idle, outputs_seq_eq_iff s .wcTx, outputs_seq_eq_iff s .rcTx, outputs_seq_eq_iff s .rcRx,
    outputs_seq_eq_iff s .smTx, outputs_seq_eq_iff s .smDly, outputs_seq_eq_iff s .spTx, outputs_seq_eq_iff s .spDly,
    outputs_seq_eq_iff s .rsDly1, outputs_seq_eq_iff s .rsDly2, outputs_seq_eq_iff s .rtTx1, outputs_seq_eq_iff s .rtDly,
    outputs_seq_eq_iff s .rtTx2, outputs_seq_eq_iff s .rtRx,
    outputs_meas_eq_one s, outputs_errLatch_eq_one s, rfl, rfl, rfl, rfl, rfl, devAddr_eq_append s⟩

/-- Settles O59: equal ports are equal field by field, and each register is read back from its own. -/
theorem portsDetermineRegisters : Obligations.PortsDetermineRegisters := by
  intro s t h
  have hseq := seqCode_injective (congrArg OutputPorts.seq h)
  have hstatus := statusCode_injective (congrArg OutputPorts.status h)
  have hstage := stageCode_injective (congrArg OutputPorts.stage h)
  have htx := txBuf_eq_of_outputs (congrArg OutputPorts.txBuf h)
  have hrx := rxBuf_eq_of_outputs (congrArg OutputPorts.rxBuf h)
  have hlatch : s.errLatch = t.errLatch := BitVec.ofBool_eq_iff_eq.mp (congrArg OutputPorts.errLatch h)
  have hmeas : s.meas = t.meas := BitVec.ofBool_eq_iff_eq.mp (congrArg OutputPorts.meas h)
  exact ⟨hseq, congrArg OutputPorts.cmdReg h, htx, hrx, congrArg OutputPorts.crcReg h, congrArg OutputPorts.dataOut h,
    congrArg OutputPorts.tempOut h, hstatus, hstage, hlatch, hmeas, congrArg OutputPorts.addrSelQ h⟩

end Sys2Proof
end

/-! ## Operations end (20_memory.md R67, 42_protocol.md section 1, 60_exceptions.md R184)

The measure is `stepsLeft`: an accepted request sets it to the operation's bound less its accepting step, every awaited answer lowers
it, and a run that has none left is in IDLE. What the steps of a run do adds up by `Quiet.trans_completes`. -/

section
namespace Sys2Proof.Machine

/-! ### Answers use up the steps that are left -/

theorem verifyStep_seq (f : Frame) (sg : Stage) (k : State → State) (s : State) : (verifyStep f sg k s).seq = .idle := by
  obtain ⟨-, hv⟩ | ⟨-, hv⟩ := verifyStep_cases f sg k s <;> rw [hv, complete_seq]

theorem stepsLeft_pos {q : Machine.Seq} (hq : q ≠ .idle) : 0 < stepsLeft q := by
  cases q
  case idle => exact absurd rfl hq
  all_goals simp [stepsLeft]

/-- An accepted request leaves the operation's bound, less the accepting step itself (R140). -/
theorem stepsLeft_acceptNext (i : Instr) (s : State) : stepsLeft (acceptNext i s).seq = opSteps i.op - 1 := by
  cases i
  case parseFrame => rw [acceptNext, verifyStep_seq]; rfl
  all_goals rfl

theorem onTxResp_stepsLeft_lt {r : TxAnswer} {s t : State} (h : onTxResp r s = .next t) :
    stepsLeft t.seq < stepsLeft s.seq := by
  obtain ⟨hq, rfl⟩ | ⟨hq, rfl⟩ | ⟨hq, rfl⟩ | ⟨hq, rfl⟩ | ⟨hq, rfl⟩ | ⟨hq, rfl⟩ := onTxResp_cases h <;> cases r
  all_goals simp [wcTxStep, rcTxStep, smTxStep, spTxStep, rtTx1Step, rtTx2Step, stepsLeft, hq]

theorem onRxResp_stepsLeft_lt {r : RxAnswer} {s t : State} (h : onRxResp r s = .next t) :
    stepsLeft t.seq < stepsLeft s.seq := by
  rw [(onRxResp_completes h).idle]
  obtain ⟨hq, -⟩ | ⟨hq, -⟩ := onRxResp_cases h <;> simp [stepsLeft, hq]

theorem onDelayDone_stepsLeft_lt {s t : State} (h : onDelayDone s = .next t) : stepsLeft t.seq < stepsLeft s.seq := by
  obtain ⟨hq, rfl⟩ | ⟨hq, rfl⟩ | ⟨hq, rfl⟩ | ⟨hq, rfl⟩ | ⟨hq, rfl⟩ := onDelayDone_cases h <;> cases hlatch : s.errLatch
  all_goals simp [smDlyStep, spDlyStep, rsDly1Step, rsDly2Step, rtDlyStep, stepsLeft, hq, hlatch]

theorem answers_iff {q : Machine.Seq} {e : InputEvent} :
    answers q e = true ↔ answerKind e ≠ none ∧ awaits q = answerKind e := by
  cases hk : answerKind e <;> cases hq : awaits q <;> simp [answers, hk, hq]

/-- The awaited answer has a step, which uses up one of those left and goes on with the operation or completes it. -/
theorem react_of_answers {s : State} {e : InputEvent} (he : answers s.seq e = true) :
    ∃ t, react e s = .next t ∧ stepsLeft t.seq < stepsLeft s.seq ∧ (GoesOn s t ∨ Completes s t) := by
  obtain ⟨hkind, hawaits⟩ := answers_iff.mp he
  obtain ⟨-, t, ht⟩ | ⟨hadm, -⟩ := react_next_or_fault e s
  · refine ⟨t, ht, ?_⟩
    cases e with
    | txResp r => exact ⟨onTxResp_stepsLeft_lt ht, onTxResp_goesOn_or_completes ht⟩
    | rxResp r => exact ⟨onRxResp_stepsLeft_lt ht, .inr (onRxResp_completes ht)⟩
    | delayDone => exact ⟨onDelayDone_stepsLeft_lt ht, onDelayDone_goesOn_or_completes ht⟩
    | offer w | rst b => exact absurd rfl hkind
  · exact absurd (admitted_iff.mpr (.inr hawaits)) hadm

/-- The accepting step takes its offer off the inputs, leaves the operation's bound of steps, and begins the operation or completes
it at once. -/
theorem step_of_accepted {s : State} {w : Req} {rest : List InputEvent} (hs : s.seq = .idle) (hi : s.inputs = .offer w :: rest) :
    ∃ t, step s = .next t ∧ t.inputs = rest ∧ stepsLeft t.seq = opSteps (decode w).op - 1 ∧
      (GoesOn { s with inputs := rest } t ∨ Completes { s with inputs := rest } t) := by
  have hstep := (step_of_input hi).trans (onOffer_of_idle hs)
  have hinputs := (step_onlyAppends hstep).inputs
  rw [hi] at hinputs
  exact ⟨_, hstep, hinputs, stepsLeft_acceptNext _ _, acceptNext_goesOn_or_completes (by exact hs) _ _ _⟩

/-! ### A run driven by the environment -/

/-- An event put before the inputs is the one reacted to. -/
theorem step_input_cons (e : InputEvent) (s : State) : step { s with inputs := e :: s.inputs } = react e s :=
  step_of_input rfl

/-- Quiet steps before a completion belong to it: their events hold no `Done`, and they leave the data registers alone. -/
theorem Quiet.trans_completes {s t u : State} (hst : Quiet s t) (htu : Completes t u) : Completes s u where
  idle := htu.idle
  trace := by
    obtain ⟨before, htrace, hbefore⟩ := hst.trace
    obtain ⟨new, hutrace, hnew⟩ := htu.trace
    exact ⟨before ++ new, by simp [hutrace, htrace], by simp [hbefore, hnew]⟩
  fits := htu.fits
  data := fun hfail => by
    obtain ⟨hdata, htemp⟩ := htu.data hfail
    exact ⟨hdata.trans hst.dataOut, htemp.trans hst.tempOut⟩

/-- In IDLE there is no operation to drive. -/
theorem driveWith_of_idle (env : Machine.Seq → InputEvent) (n : Nat) {s : State} (hs : s.seq = .idle) :
    driveWith env n s = .next s := by
  cases n <;> simp [driveWith, hs]

/-- In a wait state the environment's answer is reacted to, and what is left of the operation driven on. -/
theorem driveWith_of_react {env : Machine.Seq → InputEvent} {s t : State} (n : Nat) (hs : s.seq ≠ .idle)
    (h : react (env s.seq) s = .next t) : driveWith env (n + 1) s = driveWith env n t := by
  simp [driveWith, hs, step_input_cons, h]

/-- A reaction to an event takes nothing more off the list of inputs. -/
theorem react_inputs {s t : State} {e : InputEvent} (h : react e s = .next t) : t.inputs = s.inputs :=
  (step_onlyAppends ((step_input_cons e s).trans h)).inputs

/-- Driven by an environment that answers as asked, an operation in progress completes within the steps that are left. -/
theorem driveWith_completes {env : Machine.Seq → InputEvent} (henv : ∀ q, q ≠ .idle → answers q (env q) = true) (n : Nat)
    (s : State) (hs : s.seq ≠ .idle) (hn : stepsLeft s.seq ≤ n) :
    ∃ u, driveWith env n s = .next u ∧ u.inputs = s.inputs ∧ Completes s u := by
  induction n generalizing s with
  | zero => exact absurd (stepsLeft_pos hs) (by omega)
  | succ n ih =>
    obtain ⟨t, ht, hless, hon | hend⟩ := react_of_answers (henv _ hs) <;> rw [driveWith_of_react n hs ht, ← react_inputs ht]
    · obtain ⟨u, hu, hinputs, hend⟩ := ih t hon.busy (by omega)
      exact ⟨u, hu, hinputs, hon.toQuiet.trans_completes hend⟩
    · exact ⟨t, driveWith_of_idle env n hend.idle, rfl, hend⟩

/-! ### The bus address -/

/-- The zero extension of R70 puts one 0 bit before the seven of DEV_ADDR. -/
theorem busAddr_eq_append (s : State) : busAddr s = 0#1 ++ devAddr s :=
  BitVec.setWidth_eq_append (by decide)

end Sys2Proof.Machine

namespace Sys2Proof

open Sys2Proof.Machine

/-- Settles O34: the accepting step completes, or it leaves an operation in progress, which `driveWith_completes` takes to its end. -/
theorem operationsEndInBoundedSteps : Obligations.OperationsEndInBoundedSteps := by
  intro env henv s w rest hs hi
  obtain ⟨t, hstep, hinputs, hleft, hon | hend⟩ := step_of_accepted hs hi
  · obtain ⟨u, hdrive, huinputs, hlast⟩ := driveWith_completes henv _ t hon.busy hleft.le
    have hend := hon.toQuiet.trans_completes hlast
    exact ⟨t, u, hstep, hdrive, hend.idle, huinputs.trans hinputs, hend.trace⟩
  · exact ⟨t, t, hstep, driveWith_of_idle env _ hend.idle, hend.idle, hinputs, hend.trace⟩

/-- Settles O49: the zero extension and the OR of R70, each as the bits put side by side. -/
theorem busAddressBits : Obligations.BusAddressBits := fun s => by
  rw [busAddr_eq_append, devAddr_eq_append]

end Sys2Proof
end

/-! ## The request word and its instruction (30_encoding.md R90, R91, R93, R94)

A word is its OP field before its ARG field, and every mask and pattern of the opcode map is put together in the same way, so each
statement about words falls apart into one about the OP field and one about the ARG field. -/

section
namespace Sys2Proof

/-! ### ARG and its layouts -/

/-- ARG is its high byte before the half-word of A_CMD and A_RAW. -/
theorem argHigh_append_argHalf (a : Arg) : argHigh a ++ argHalf a = a :=
  BitVec.extractLsb'_append_extractLsb' (w := 8) (len := 16)

/-- The two bytes of A_B2 are the half-word of A_CMD. -/
theorem argMid_append_argLow (a : Arg) : argMid a ++ argLow a = argHalf a :=
  BitVec.extractLsb'_append_extractLsb'_eq_extractLsb' rfl

/-- Clearing the bits that A_CMD, A_RAW and A_B2 ignore. -/
theorem and_halfMask (a : Arg) : a &&& 0x00FFFF#24 = 0#8 ++ argHalf a :=
  calc a &&& 0x00FFFF#24
    _ = (argHigh a ++ argHalf a) &&& (0#8 ++ BitVec.allOnes 16) := by rw [argHigh_append_argHalf]; rfl
    _ = 0#8 ++ argHalf a := by rw [BitVec.and_append, BitVec.and_zero, BitVec.and_allOnes]

/-- Every layout takes back the operands it was given. -/
theorem withArg_encodeArg (i : Instr) : withArg i.op (encodeArg i) = i := by
  cases i
  case writeCommand c | readCommand c | startMeasurement c | encode c | convert c =>
    simp only [Instr.op, encodeArg, withArg, argHalf_append]
  case crc8 b0 b1 | decode b0 b1 => simp only [Instr.op, encodeArg, withArg, argMid_append, argLow_append]
  case parseFrame b0 b1 b2 =>
    have hhigh : argHigh (b0 ++ (b1 ++ b2)) = b0 := argHigh_append b0 (b1 ++ b2)
    simp only [Instr.op, encodeArg, withArg, hhigh, argMid_append, argLow_append]
  all_goals rfl

/-- Every layout gives back the ARG bits that it names, and zeros for the others (R94). -/
theorem encodeArg_withArg (o : Op) (a : Arg) : encodeArg (withArg o a) = a &&& argField o.usedBits := by
  cases o
  case writeCommand | readCommand | startMeasurement | encode | convert => exact (and_halfMask a).symm
  case crc8 | decode =>
    calc (0#8 ++ (argMid a ++ argLow a : Half) : Arg)
      _ = 0#8 ++ argHalf a := by rw [argMid_append_argLow]
      _ = a &&& 0x00FFFF#24 := (and_halfMask a).symm
  case parseFrame =>
    calc (argHigh a ++ (argMid a ++ argLow a : Half) : Arg)
      _ = a := by rw [argMid_append_argLow, argHigh_append_argHalf]
      _ = a &&& BitVec.allOnes 24 := BitVec.and_allOnes.symm
  all_goals exact BitVec.and_zero.symm

/-! ### OP -/

/-- The operation with its operands filled in is still that operation. -/
theorem withArg_op (o : Op) (a : Arg) : (withArg o a).op = o := by cases o <;> rfl

/-- `opOfCode` and `Op.code` are inverse to each other. -/
theorem opOfCode_eq_iff (c : BitVec 4) (o : Op) : opOfCode c = o ↔ c = o.code :=
  ⟨fun h => h ▸ (code_opOfCode c).symm, fun h => h ▸ opOfCode_code o⟩

/-- Every layout names all four bits of OP. -/
theorem opField_usedBits (o : Op) : opField o.usedBits = BitVec.allOnes 4 := by cases o <;> rfl

/-- So the OP field survives every layout's mask. -/
theorem opField_and_usedBits (w : Req) (o : Op) : opField (w &&& o.usedBits) = opField w :=
  calc opField (w &&& o.usedBits)
    _ = opField w &&& opField o.usedBits := BitVec.extractLsb'_and
    _ = opField w := by rw [opField_usedBits, BitVec.and_allOnes]

/-! ### Whole words -/

/-- Decoding undoes encoding, operands and all. -/
theorem decode_encode (i : Instr) : decode (encode i) = i := by
  rw [encode, decode_append, opOfCode_code, withArg_encodeArg]

/-- Encoding an operation with its operands taken from ARG clears the ignored bits. -/
theorem encode_withArg (o : Op) (a : Arg) : encode (withArg o a) = (o.code ++ a) &&& o.usedBits :=
  calc encode (withArg o a)
    _ = o.code ++ (a &&& argField o.usedBits) := by rw [encode, withArg_op, encodeArg_withArg]
    _ = (o.code ++ a) &&& (opField o.usedBits ++ argField o.usedBits) := by
      rw [append_and, opField_usedBits, BitVec.and_allOnes]
    _ = (o.code ++ a) &&& o.usedBits := by rw [opField_append_argField]

/-- Encoding undoes decoding but for the ignored bits. -/
theorem encode_decode (w : Req) : encode (decode w) = w &&& (decode w).op.usedBits := by
  rw [decode_op, decode, encode_withArg, code_opOfCode, opField_append_argField]

/-- Words that differ only outside `m` are the same under the mask `m`. -/
theorem and_eq_and_of_xor_and_eq_zero {n : Nat} {w v m : BitVec n} (h : (w ^^^ v) &&& m = 0#n) : w &&& m = v &&& m := by
  have hdistrib : (w ^^^ v) &&& m = (w &&& m) ^^^ (v &&& m) := by
    ext k
    simp [Bool.and_xor_distrib_right]
  exact BitVec.xor_eq_zero_iff.mp (hdistrib ▸ h)

/-- The mask of the opcode map keeps OP and clears ARG. -/
theorem and_opMask (w : Req) : w &&& 0xF000000#28 = opField w ++ 0#24 := by
  have h := Laws.OpField.op_of_word (opField w) (argField w)
  rwa [opField_append_argField] at h

/-- Each row of the opcode map has that mask, and its operation's code for a pattern. -/
theorem opRows_mask_pattern : ∀ row ∈ opRows, row.mask = 0xF000000#28 ∧ row.pattern = row.op.code ++ 0#24 := by decide

/-! ### The statements -/

/-- Settles O5: the two round trips. -/
theorem decodeAndEncodeAgree : Obligations.DecodeAndEncodeAgree := ⟨decode_encode, encode_decode⟩

/-- Settles O3: under the mask only OP is left, and its value selects the operation. -/
theorem opcodeMapSelectsOperation : Obligations.OpcodeMapSelectsOperation := by
  intro row hrow w
  obtain ⟨hmask, hpattern⟩ := opRows_mask_pattern row hrow
  rw [hmask, hpattern, and_opMask, BitVec.append_left_inj, decode_op, opOfCode_eq_iff]

/-- Settles O4: the words have the same OP, so the same layout, and the same bits under it; those are all that `decode` reads, since
encoding what it gives returns them. -/
theorem unusedArgBitsIgnored : Obligations.UnusedArgBitsIgnored := by
  intro w v h
  have hbits : w &&& (decode w).op.usedBits = v &&& (decode w).op.usedBits := and_eq_and_of_xor_and_eq_zero h
  have hop : (decode v).op = (decode w).op := by
    rw [decode_op v, ← opField_and_usedBits v (decode w).op, ← hbits, opField_and_usedBits, ← decode_op]
  calc decode v
    _ = decode (v &&& (decode v).op.usedBits) := by rw [← encode_decode, decode_encode]
    _ = decode (w &&& (decode w).op.usedBits) := by rw [hop, hbits]
    _ = decode w := by rw [← encode_decode, decode_encode]

/-- Settles O6: thirteen closed words, each decoded by evaluation. -/
theorem sampleWordsDecode : Obligations.SampleWordsDecode := by
  unfold Obligations.SampleWordsDecode
  decide

end Sys2Proof
end

/-! ## Accepting a request (30_encoding.md R90, R92, R96; 10_state.md R39) -/

section
namespace Sys2Proof.Machine

/-- In IDLE the step on an offer is the decoded operation's, with `Req` recorded first (R92). -/
theorem step_offer_of_idle {s : State} {w : Req} {rest : List InputEvent} (hi : s.inputs = .offer w :: rest)
    (hs : s.seq = .idle) :
    step s = exec (decode w) (emit (.req (opField w) (argField w)) { s with inputs := rest }) := by
  rw [step_of_input hi, exec_of_idle _ (by exact hs)]
  exact onOffer_of_idle hs

/-- While BUSY the step on an offer takes it off the inputs (R92). -/
theorem step_offer_of_busy {s : State} {w : Req} {rest : List InputEvent} (hi : s.inputs = .offer w :: rest)
    (hs : s.seq ≠ .idle) : step s = .next { s with inputs := rest } :=
  (step_of_input hi).trans (onOffer_of_busy hs)

/-- The host's interface reads a word by `decode`. -/
theorem decode_of_decodeTableWord {nbits w : Nat} {i : Instr} (h : decodeTableWord nbits w = some i) :
    decode (BitVec.ofNat 28 w) = i := by
  obtain hw | hw := Nat.lt_or_ge w (2 ^ 28)
  · exact Option.some.inj ((decodeTableWord_of_lt nbits hw).symm.trans h)
  · cases (decodeTableWord_of_ge nbits hw).symm.trans h

/-- CONVERT writes some value to TEMP_OUT and completes; which value is left open, so that no proof about the other registers
evaluates `scale`. -/
theorem acceptNext_convert (r : Half) (s : State) :
    ∃ v, acceptNext (.convert r) s = complete .ok .none (writeTemp v s) := ⟨scale r, rfl⟩

end Sys2Proof.Machine

namespace Sys2Proof

open Sys2Proof.Machine

/-- Settles O39: while BUSY nothing is written; in IDLE the field lemmas of the shared operations say, operation by operation, what
is kept. -/
theorem execWritesOnlyItsRegisters : Obligations.ExecWritesOnlyItsRegisters := by
  intro i s t h
  by_cases hs : s.seq = .idle
  · cases (exec_of_idle i hs).symm.trans h
    cases i
    case parseFrame b0 b1 b2 =>
      obtain ⟨-, hv⟩ | ⟨-, hv⟩ := verifyStep_cases ⟨b0, b1, b2⟩ .none id s <;> simp [acceptNext, hv, Instr.op]
    case convert r =>
      obtain ⟨v, hv⟩ := acceptNext_convert r s
      simp [hv, Instr.op]
    all_goals simp [acceptNext, Instr.op]
  · cases (exec_of_busy i hs).symm.trans h
    simp

/-- Settles O1: the step on an offer, and `exec`, each in IDLE and while BUSY. -/
theorem requestAcceptedOnlyInIdle : Obligations.RequestAcceptedOnlyInIdle :=
  ⟨fun _ _ _ hi => ⟨step_offer_of_idle hi, step_offer_of_busy hi⟩, fun i _ hs => exec_of_busy i hs⟩

/-- Settles O2: the interface makes the core ready and puts the word first, so that the next step is an accepting one. -/
theorem fetchWordRunsNext : Obligations.FetchWordRunsNext := by
  intro s nbits w i h
  rw [← decode_of_decodeTableWord h]
  exact step_offer_of_idle (s := s.withFetchWord nbits w) rfl rfl

/-- Settles O12: the five OP values by the opcode map, their effect by `acceptNext`. -/
theorem reservedOpsAreIllegal : Obligations.ReservedOpsAreIllegal := by
  refine ⟨fun a => ⟨decode_append 0xB#4 a, decode_append 0xC#4 a, decode_append 0xD#4 a, decode_append 0xE#4 a,
    decode_append 0xF#4 a⟩, fun i s hmem hs => ?_⟩
  rw [exec_of_idle i hs]
  simp only [List.mem_cons, List.not_mem_nil, or_false] at hmem
  obtain rfl | rfl | rfl | rfl | rfl := hmem <;> rfl

end Sys2Proof
end

/-! ## The transition table (42_protocol.md R160) -/

section
namespace Sys2Proof.Machine

/-- The rows of an accepted request. -/
theorem seqAfter_offer (w : Req) (s : State) (latch : Bool) :
    seqAfter .idle (.offer w) latch = some (acceptNext (decode w) s).seq := by
  unfold decode
  cases hop : opOfCode (opField w) <;> simp [seqAfter, hop, withArg, acceptNext, verifyStep_seq]

/-- The rows of a write's answer. -/
theorem onTxResp_seqAfter {r : TxAnswer} {s t : State} (h : onTxResp r s = .next t) :
    seqAfter s.seq (.txResp r) s.errLatch = some t.seq := by
  obtain ⟨hq, rfl⟩ | ⟨hq, rfl⟩ | ⟨hq, rfl⟩ | ⟨hq, rfl⟩ | ⟨hq, rfl⟩ | ⟨hq, rfl⟩ := onTxResp_cases h <;> rw [hq] <;> cases r
  all_goals rfl

/-- The rows of a read's answer: the operation ends. -/
theorem onRxResp_seqAfter {r : RxAnswer} {s t : State} (h : onRxResp r s = .next t) :
    seqAfter s.seq (.rxResp r) s.errLatch = some t.seq := by
  rw [(onRxResp_completes h).idle]
  obtain ⟨hq, -⟩ | ⟨hq, -⟩ := onRxResp_cases h <;> rw [hq, seqAfter]

/-- The rows of the end of a delay; only that of RT_DLY reads ERR_LATCH, the other two that do go to IDLE either way. -/
theorem onDelayDone_seqAfter {s t : State} (h : onDelayDone s = .next t) :
    seqAfter s.seq .delayDone s.errLatch = some t.seq := by
  obtain ⟨hq, rfl⟩ | ⟨hq, rfl⟩ | ⟨hq, rfl⟩ | ⟨hq, rfl⟩ | ⟨hq, rfl⟩ := onDelayDone_cases h <;> cases hlatch : s.errLatch
  all_goals simp [smDlyStep, spDlyStep, rsDly1Step, rsDly2Step, rtDlyStep, seqAfter, hq, hlatch]

/-- A reaction goes to the table's next SEQ; an offer to a BUSY core is no row of the table. -/
theorem react_seqAfter {s t : State} {e : InputEvent} (hoffer : ∀ w, e = .offer w → s.seq = .idle)
    (h : react e s = .next t) : seqAfter s.seq e s.errLatch = some t.seq := by
  cases e with
  | offer w =>
    have hs := hoffer w rfl
    cases (onOffer_of_idle hs).symm.trans h
    rw [hs]
    exact seqAfter_offer ..
  | txResp r => exact onTxResp_seqAfter h
  | rxResp r => exact onRxResp_seqAfter h
  | delayDone => exact onDelayDone_seqAfter h
  | rst b =>
    cases h
    rfl

/-- The table has no row for an answer that nobody asked for (R68). -/
theorem admitted_of_seqAfter {q q' : Machine.Seq} {e : InputEvent} {latch : Bool} (h : seqAfter q e latch = some q') :
    admitted q e = true := by
  rw [admitted_iff]
  cases e with
  | offer w | rst b => exact .inl rfl
  | txResp r | rxResp r | delayDone =>
    revert h
    cases q <;> simp [seqAfter, awaits, answerKind]

end Sys2Proof.Machine

namespace Sys2Proof

open Sys2Proof.Machine

/-- Settles O32: a pair in the table is an admitted event, which has a step, and every step is a row of the table. -/
theorem stepFollowsTransitionTable : Obligations.StepFollowsTransitionTable := by
  intro s e rest hi hoffer
  rw [step_of_input hi]
  have htable {t : State} (ht : react e { s with inputs := rest } = .next t) : seqAfter s.seq e s.errLatch = some t.seq :=
    react_seqAfter (s := { s with inputs := rest }) hoffer ht
  refine ⟨fun q hq => ?_, fun hnone t ht => ?_⟩
  · obtain ⟨-, t, ht⟩ | ⟨hadm, -⟩ := react_next_or_fault e { s with inputs := rest }
    · exact ⟨t, ht, Option.some.inj ((htable ht).symm.trans hq)⟩
    · exact absurd (admitted_of_seqAfter hq) hadm
  · cases hnone.symm.trans (htable ht)

end Sys2Proof
end

/-! ## The checksum (40_checksum.md R120 to R124)

A bit-step and a byte-step are bijections, and linear over exclusive OR. A byte XORed in at once, as R120 has it, may be fed in bit by
bit instead: the bits not yet tested stay as a difference between the two registers, which the shifts push out. -/

section
namespace Sys2Proof.Machine

/-! ### Bijections -/

theorem bitstep_bijective : Function.Bijective bitstep :=
  Finite.injective_iff_bijective.mp fun _ _ => bitstep_injective

/-- With the register fixed, a byte-step is a bijection of the byte. -/
theorem bytestep_bijective_byte (r : Byte) : Function.Bijective (bytestep r) :=
  (bitstep_bijective.iterate 8).comp (Finite.injective_iff_bijective.mp fun _ _ => (BitVec.xor_right_inj r).mp)

/-- With the byte fixed, a byte-step is a bijection of the register. -/
theorem bytestep_bijective_register (b : Byte) : Function.Bijective (bytestep · b) :=
  (bitstep_bijective.iterate 8).comp (Finite.injective_iff_bijective.mp fun _ _ => (BitVec.xor_left_inj b).mp)

theorem crc8_bijective_b1 (b0 : Byte) : Function.Bijective (crc8 b0) := bytestep_bijective_byte _

theorem crc8_bijective_b0 (b1 : Byte) : Function.Bijective (crc8 · b1) :=
  (bytestep_bijective_register b1).comp (bytestep_bijective_byte crcInit)

/-! ### Values of the rules -/

theorem crc8_zero_zero : crc8 0x00#8 0x00#8 = 0x81#8 := by decide +kernel

/-- R122: a first byte equal to the initial value leaves nothing for the second. -/
theorem crc8_crcInit_zero : crc8 0xFF#8 0x00#8 = 0x00#8 := by decide +kernel

/-- R123. -/
theorem crc8_goldenVector : crc8 0xBE#8 0xEF#8 = 0x92#8 := by decide +kernel

/-! ### Bit by bit -/

/-- One message bit goes in against the register's top bit: the shift, and the XOR of the polynomial if the two differ. -/
def feedBit (r : Byte) (d : Bool) : Byte := if r.msb != d then (r <<< 1) ^^^ crcPoly else r <<< 1

/-- The register after the bits of a message, most significant first. -/
def feedBits {n : Nat} (r : Byte) (m : BitVec n) : Byte := (List.range n).foldl (fun r k => feedBit r (m.getMsbD k)) r

/-- A bit-step of the register with `b` XORed in tests the bit `b.msb` and keeps the other bits of `b` XORed in, one place up. -/
theorem bitstep_xor_eq_feedBit (r b : Byte) : bitstep (r ^^^ b) = feedBit r b.msb ^^^ b <<< 1 := by
  unfold bitstep feedBit
  rw [BitVec.msb_xor, BitVec.shiftLeft_xor_distrib]
  split
  · ac_rfl
  · rfl

/-- The same for any number of bit-steps. -/
theorem iterate_bitstep_xor (r b : Byte) (n : Nat) :
    bitstep^[n] (r ^^^ b) = (List.range n).foldl (fun r k => feedBit r (b.getMsbD k)) r ^^^ b <<< n := by
  induction n with
  | zero => simp
  | succ n ih =>
    rw [Function.iterate_succ_apply', ih, bitstep_xor_eq_feedBit, BitVec.msb_shiftLeft, ← BitVec.shiftLeft_add,
      List.range_succ, List.foldl_concat]

/-- Eight bit-steps push the whole byte out, so a byte-step feeds its eight bits in. -/
theorem bytestep_eq_feedBits (r b : Byte) : bytestep r b = feedBits r b := by
  rw [bytestep_eq, iterate_bitstep_xor, BitVec.shiftLeft_eq_zero le_rfl, BitVec.xor_zero, feedBits]

/-- A message is fed in part by part. -/
theorem feedBits_append {n m : Nat} (r : Byte) (x : BitVec n) (y : BitVec m) :
    feedBits r (x ++ y) = feedBits (feedBits r x) y := by
  have hx : (List.range n).foldl (fun r k => feedBit r ((x ++ y).getMsbD k)) r = feedBits r x := by
    refine List.foldl_ext _ _ _ fun r k hk => ?_
    rw [BitVec.getMsbD_append, if_neg (by simpa using hk)]
  simp only [feedBits, List.range_add, List.foldl_append, List.foldl_map]
  rw [hx]
  simp [feedBits, BitVec.getMsbD_append]

/-- The checksum feeds in the two bytes put together. -/
theorem crc8_eq_feedBits (b0 b1 : Byte) : crc8 b0 b1 = feedBits crcInit (b0 ++ b1) := by
  rw [crc8, bytestep_eq_feedBits, bytestep_eq_feedBits, feedBits_append]

end Sys2Proof.Machine

namespace Sys2Proof

open Sys2Proof.Machine

/-- Settles O52: `crc8_eq_feedBits`, whose right side is the statement's fold. -/
theorem checksumIsBitSerial : Obligations.ChecksumIsBitSerial := crc8_eq_feedBits

/-- Settles O53: the checksum is a bijection of each byte. -/
theorem checksumSeesOneByteChanges : Obligations.ChecksumSeesOneByteChanges :=
  ⟨fun b0 => (crc8_bijective_b1 b0).existsUnique, fun b1 => (crc8_bijective_b0 b1).existsUnique⟩

/-- Settles O54: both byte-steps are linear, and of the three initial values XORed together one is left. -/
theorem checksumIsAffine : Obligations.ChecksumIsAffine := by
  refine ⟨crc8_zero_zero, fun a0 a1 c0 c1 => ?_⟩
  simp only [crc8, ← bytestep_xor, BitVec.xor_self, BitVec.zero_xor, BitVec.xor_zero]

/-- Settles O7: OP by the opcode map, the effect by `acceptNext`. -/
theorem crc8WritesChecksum : Obligations.Crc8WritesChecksum := by
  refine ⟨decode_append 0x6#4, crc8_zero_zero, crc8_crcInit_zero, crc8_goldenVector, fun b0 b1 s hs => ?_⟩
  rw [exec_of_idle _ hs]
  rfl

/-- Settles O51: the two exclusive ORs and the two rows of eight bit-steps, each by evaluation. -/
theorem goldenVector : Obligations.GoldenVector :=
  ⟨by decide, by decide, by decide, by decide, crc8_goldenVector⟩

end Sys2Proof
end

/-! ## The command codec and the frame parser (41_codec_parser.md R130 to R134) -/

section
namespace Sys2Proof.Machine

/-! ### The codec as two functions -/

theorem decodeData_encodeCmd (c : Half) : decodeData (encodeCmd c).b0 (encodeCmd c).b1 = c :=
  BitVec.extractLsb'_append_extractLsb' (w := 8) (len := 8)

theorem encodeCmd_decodeData (b0 b1 : Byte) : encodeCmd (decodeData b0 b1) = ⟨b0, b1⟩ := by
  unfold encodeCmd decodeData
  rw [BitVec.extractLsb'_append_eq_left, BitVec.extractLsb'_append_eq_right]

/-! ### The checksum flag after a verify step -/

/-- The frame just taken in is what CRC_OK compares, so the flag tells how the operation ended (R30, R134). -/
theorem crcOk_verifyStep_iff {k : State → State} (hk : ∀ u, crcOk (k u) = crcOk u) (f : Frame) (sg : Stage) (s : State) :
    crcOk (verifyStep f sg k s) = true ↔ (verifyStep f sg k s).status = .ok := by
  have hcomplete (st : Status) (sg : Stage) (u : State) : crcOk (complete st sg u) = crcOk u := rfl
  obtain ⟨hcrc, hv⟩ | ⟨hcrc, hv⟩ := verifyStep_cases f sg k s <;> rw [hv, hcomplete]
  · rw [hk]
    simp [crcOk, hcrc]
  · simp [crcOk, hcrc]

end Sys2Proof.Machine

namespace Sys2Proof

open Sys2Proof.Machine

/-- Settles O8: OP by the opcode map, the effect by `acceptNext`. -/
theorem encodeWritesTxBuf : Obligations.EncodeWritesTxBuf := by
  refine ⟨decode_append 0x7#4, fun cmd s hs => ?_⟩
  rw [exec_of_idle _ hs]
  rfl

/-- Settles O9: OP by the opcode map, the two operand bytes by the layouts of ARG, the effect by `acceptNext`. -/
theorem decodeWritesDataOut : Obligations.DecodeWritesDataOut := by
  refine ⟨decode_append 0x8#4, argMid_append_argLow, fun b0 b1 s hs => ?_⟩
  rw [exec_of_idle _ hs]
  rfl

/-- Settles O10: OP by the opcode map, the effect by the two cases of the verify step. -/
theorem parseFrameVerifies : Obligations.ParseFrameVerifies := by
  refine ⟨decode_append 0x9#4, fun b0 b1 b2 s hs => ?_⟩
  rw [exec_of_idle _ hs, acceptNext]
  refine ⟨fun hcrc => ?_, fun hcrc => ?_, _, rfl, crcOk_verifyStep_iff (fun _ => rfl) _ _ _⟩
  · rw [verifyStep_match ⟨b0, b1, b2⟩ hcrc]
    rfl
  · rw [verifyStep_mismatch ⟨b0, b1, b2⟩ hcrc]
    rfl

/-- Settles O55: the two round trips; ENCODE leaves the core in IDLE with the encoded bytes in TXBUF, and DECODE puts them together
again. -/
theorem codecRoundTrip : Obligations.CodecRoundTrip :=
  ⟨decodeData_encodeCmd, encodeCmd_decodeData, fun c _ hs =>
    ⟨_, _, exec_of_idle (.encode c) hs, exec_of_idle _ rfl, decodeData_encodeCmd c⟩⟩

end Sys2Proof
end

/-! ## What a step asks of the bus (20_memory.md R61, R62, R70; 42_protocol.md R141, R145, R157)

A step asks nothing of the bus, or sends one command, or, in the two wait states of a read's command, asks for one frame. -/

section
namespace Sys2Proof.Machine

/-- The two events that the bus adapter has to answer (R61, R62). -/
def isBusRequest : Event → Bool
  | .transmit _ _ | .receive _ _ => true
  | .req _ _ | .txResp _ | .rxResp _ | .setPin _ _ | .delay _ | .delayDone | .done _ _ | .rst _ => false

/-- From `s` to `t` the trace grows by events that ask nothing of the bus. -/
def BusSilent (s t : State) : Prop :=
  ∃ new, t.trace = s.trace ++ new ∧ ∀ e ∈ new, isBusRequest e = false

/-- From `s` to `t` an event of another kind is traced, and after it the new TXBUF, which is the new CMD_REG encoded, is sent. -/
def SendsCommand (s t : State) : Prop :=
  t.txBuf = encodeCmd t.cmdReg ∧
  ∃ e, isBusRequest e = false ∧ t.trace = s.trace ++ [e, .transmit (busAddr s) t.txBuf]

/-- From `s`, which waits for the answer to a read's command, to `t` that answer is `ok` and a frame is asked for. -/
def AsksForFrame (s t : State) : Prop :=
  (s.seq = .rcTx ∨ s.seq = .rtTx2) ∧ t.trace = s.trace ++ [.txResp .ok, .receive (busAddr s) 3]

/-! ### The shared operations -/

/-- Most steps trace two events: what they react to, and a completion or a delay. -/
theorem busSilent_of_two {s t : State} {a b : Event} (htrace : t.trace = s.trace ++ [a] ++ [b])
    (ha : isBusRequest a = false) (hb : isBusRequest b = false) : BusSilent s t :=
  ⟨[a, b], by simp [htrace], by simp [ha, hb]⟩

theorem busSilent_verifyStep {k : State → State} {e : Event} (hk : ∀ u, (k u).trace = u.trace) (he : isBusRequest e = false)
    (f : Frame) (sg : Stage) (s : State) : BusSilent s (verifyStep f sg k (emit e s)) := by
  obtain ⟨-, hv⟩ | ⟨-, hv⟩ := verifyStep_cases f sg k (emit e s) <;> rw [hv]
  · exact busSilent_of_two (congrArg (· ++ _) (hk _)) he rfl
  · exact busSilent_of_two rfl he rfl

theorem sendsCommand_send {e : Event} (he : isBusRequest e = false) (q : Machine.Seq) (c : Half) (s : State) :
    SendsCommand s (goto q (send c (emit e s))) :=
  ⟨rfl, e, he, List.append_assoc ..⟩

/-! ### The accepting steps and the answer events -/

/-- Five of the protocol operations begin with a command; RESET_DEVICE drives its pin, and the unit operations complete. -/
theorem acceptNext_silent_or_sends (i : Instr) (op : BitVec 4) (arg : Arg) (s : State) :
    BusSilent s (acceptNext i (emit (.req op arg) s)) ∨ SendsCommand s (acceptNext i (emit (.req op arg) s)) := by
  cases i
  case writeCommand | readCommand | startMeasurement | stopMeasurement | readTemperature =>
    exact .inr (sendsCommand_send rfl _ _ _)
  case resetDevice =>
    refine .inl ⟨[.req op arg, .setPin s.params.resetPin .low, .delay tRstLow], ?_, by simp [isBusRequest]⟩
    simp [acceptNext]
  case parseFrame => exact .inl (busSilent_verifyStep (fun _ => rfl) rfl _ _ _)
  all_goals exact .inl (busSilent_of_two rfl rfl rfl)

/-- Only the good answer to a read's command is followed by a request for its frame. -/
theorem onTxResp_silent_or_asks {r : TxAnswer} {s t : State} (h : onTxResp r s = .next t) :
    BusSilent s t ∨ AsksForFrame s t := by
  obtain ⟨-, rfl⟩ | ⟨hq, rfl⟩ | ⟨-, rfl⟩ | ⟨-, rfl⟩ | ⟨-, rfl⟩ | ⟨hq, rfl⟩ := onTxResp_cases h
  · cases r <;> exact .inl (busSilent_of_two rfl rfl rfl)
  · cases r
    case ok => exact .inr ⟨.inl hq, List.append_assoc ..⟩
    case fail => exact .inl (busSilent_of_two rfl rfl rfl)
  · exact .inl (busSilent_of_two rfl rfl rfl)
  · exact .inl (busSilent_of_two rfl rfl rfl)
  · exact .inl (busSilent_of_two rfl rfl rfl)
  · cases r
    case ok => exact .inr ⟨.inr hq, List.append_assoc ..⟩
    case fail => exact .inl (busSilent_of_two rfl rfl rfl)

theorem onRxResp_silent {r : RxAnswer} {s t : State} (h : onRxResp r s = .next t) : BusSilent s t := by
  obtain ⟨-, rfl⟩ | ⟨-, rfl⟩ := onRxResp_cases h <;> cases r
  case inl.ok f => exact busSilent_verifyStep clearMeasIfFetch_trace rfl f _ _
  case inr.ok f =>
    refine busSilent_verifyStep ?_ rfl f _ _
    exact fun _ => rfl
  case inl.fail | inr.fail => exact busSilent_of_two rfl rfl rfl

/-- After a delay only READ_TEMPERATURE sends a command, and only if its start stage was good. -/
theorem onDelayDone_silent_or_sends {s t : State} (h : onDelayDone s = .next t) : BusSilent s t ∨ SendsCommand s t := by
  obtain ⟨-, rfl⟩ | ⟨-, rfl⟩ | ⟨-, rfl⟩ | ⟨-, rfl⟩ | ⟨-, rfl⟩ := onDelayDone_cases h
  · unfold smDlyStep
    split <;> exact .inl (busSilent_of_two rfl rfl rfl)
  · unfold spDlyStep
    split <;> exact .inl (busSilent_of_two rfl rfl rfl)
  · refine .inl ⟨[.delayDone, .setPin s.params.resetPin .high, .delay tRstRecover], ?_, by simp [isBusRequest]⟩
    simp [rsDly1Step]
  · exact .inl (busSilent_of_two rfl rfl rfl)
  · unfold rtDlyStep
    split
    · exact .inl (busSilent_of_two rfl rfl rfl)
    · exact .inr ⟨rfl, .delayDone, rfl, List.append_assoc ..⟩

/-! ### One step -/

/-- Everything a step can ask of the bus; the list of inputs is no part of it. -/
theorem step_bus_cases {s t : State} (h : step s = .next t) : BusSilent s t ∨ SendsCommand s t ∨ AsksForFrame s t := by
  have hnothing : BusSilent s s := ⟨[], by simp, by simp⟩
  obtain ⟨-, rfl⟩ | ⟨w, rest, -, -, rfl⟩ | ⟨w, rest, -, -, rfl⟩ | ⟨r, rest, -, hr⟩ | ⟨r, rest, -, hr⟩ | ⟨rest, -, hr⟩ |
    ⟨b, rest, -, rfl⟩ := step_cases h
  · exact .inl hnothing
  · exact (acceptNext_silent_or_sends (decode w) (opField w) (argField w) { s with inputs := rest }).imp_right .inl
  · exact .inl hnothing
  · exact (onTxResp_silent_or_asks (s := { s with inputs := rest }) hr).imp_right .inr
  · exact .inl (onRxResp_silent (s := { s with inputs := rest }) hr)
  · exact (onDelayDone_silent_or_sends (s := { s with inputs := rest }) hr).imp_right .inl
  · exact .inl ⟨[.rst b], rfl, by simp [isBusRequest]⟩

/-! ### Frames are asked for after good writes only -/

/-- A trace stays good when it grows by events without a `Receive`. -/
theorem receivesFollowGoodWrites_append {tr new : List Event} (htr : receivesFollowGoodWrites tr)
    (hnew : ∀ a n, Event.receive a n ∉ new) : receivesFollowGoodWrites (tr ++ new) := by
  intro pre a n post heq
  obtain ⟨l, rfl, hl⟩ | ⟨l, rfl, hl⟩ := List.append_eq_append_iff.mp heq
  · exact absurd (by rw [hl]; simp) (hnew a n)
  · cases l with
    | nil => exact absurd (by rw [← List.nil_append new, ← hl]; simp) (hnew a n)
    | cons e l =>
      obtain ⟨rfl, -⟩ := List.cons.inj hl
      exact htr _ _ _ _ rfl

/-- A trace that ends with a `Transmit` stays good when the write succeeds and a frame is asked for. -/
theorem receivesFollowGoodWrites_receive {pre : List Event} {b : Byte} {c : CmdBytes} (a : Byte) (n : Nat)
    (h : receivesFollowGoodWrites (pre ++ [.transmit b c])) :
    receivesFollowGoodWrites (pre ++ [.transmit b c] ++ [.txResp .ok, .receive a n]) := by
  intro pre' a' n' post heq
  obtain rfl | ⟨post', e, rfl⟩ := List.eq_nil_or_concat' post
  · have hpre : pre ++ [.transmit b c, .txResp .ok] = pre' := by
      refine List.append_inj_left' (t₁ := [.receive a n]) (t₂ := [.receive a' n']) ?_ rfl
      simpa using heq
    exact ⟨pre, b, c, hpre.symm⟩
  · have hshort : pre ++ [.transmit b c] ++ [.txResp .ok] = pre' ++ .receive a' n' :: post' := by
      refine List.append_inj_left' (t₁ := [.receive a n]) (t₂ := [e]) ?_ rfl
      simpa using heq
    exact receivesFollowGoodWrites_append h (by simp) _ _ _ _ hshort

end Sys2Proof.Machine

namespace Sys2Proof

open Sys2Proof.Machine

/-- Settles O38: only a step that asks for a frame adds a `Receive`, and there the invariant says that the trace ends with the
`Transmit` just answered `ok`. -/
theorem receivesFollowGoodWritesKept : Obligations.ReceivesFollowGoodWritesKept := by
  rintro s t ⟨hflight, -, -⟩ hgood h
  obtain ⟨new, htrace, hnew⟩ | ⟨-, e, he, htrace⟩ | ⟨hq, htrace⟩ := step_bus_cases h <;> rw [htrace]
  · exact receivesFollowGoodWrites_append hgood fun a n hmem => by simpa [isBusRequest] using hnew _ hmem
  · refine receivesFollowGoodWrites_append hgood fun a n hmem => ?_
    obtain rfl : Event.receive a n = e := by simpa using hmem
    simp [isBusRequest] at he
  · obtain ⟨pre, hpre⟩ : ∃ pre, s.trace = pre ++ [.transmit (busAddr s) s.txBuf] := by
      obtain hq | hq := hq <;> simpa only [requestInFlight, hq] using hflight
    rw [hpre] at hgood ⊢
    exact receivesFollowGoodWrites_receive _ _ hgood

/-- Settles O47: the events that a step adds are those of its case of `step_bus_cases`. -/
theorem busRequestsCarryAddressAndBuffer : Obligations.BusRequestsCarryAddressAndBuffer := by
  intro s t new h hnew
  obtain ⟨added, htrace, hsilent⟩ | ⟨hencoded, e, he, htrace⟩ | ⟨-, htrace⟩ := step_bus_cases h <;>
    obtain rfl := List.append_cancel_left (hnew.symm.trans htrace)
  · refine ⟨fun a b hmem => ?_, fun a n hmem => ?_⟩ <;> simpa [isBusRequest] using hsilent _ hmem
  · refine ⟨fun a b hmem => ?_, fun a n hmem => ?_⟩
    · obtain rfl | ⟨rfl, rfl⟩ : Event.transmit a b = e ∨ a = busAddr s ∧ b = t.txBuf := by simpa using hmem
      · simp [isBusRequest] at he
      · exact ⟨rfl, rfl, hencoded⟩
    · obtain rfl : Event.receive a n = e := by simpa using hmem
      simp [isBusRequest] at he
  · refine ⟨fun a b hmem => ?_, fun a n hmem => ?_⟩
    · simp at hmem
    · simpa using hmem

end Sys2Proof
end

/-! ## The protocol operations, step by step (42_protocol.md R142 to R158) -/

section
namespace Sys2Proof.Machine

/-! ### The step on an awaited answer -/

/-- What the wait state `q` makes of the answer `e`, which is traced first; nothing for an event that `q` does not wait for. -/
def answerNext (q : Machine.Seq) (e : InputEvent) (s : State) : Option State :=
  match q, e with
  | .wcTx, .txResp r     => some (wcTxStep r (emit (.txResp r) s))
  | .rcTx, .txResp r     => some (rcTxStep r (emit (.txResp r) s))
  | .smTx, .txResp r     => some (smTxStep r (emit (.txResp r) s))
  | .spTx, .txResp r     => some (spTxStep r (emit (.txResp r) s))
  | .rtTx1, .txResp r    => some (rtTx1Step r (emit (.txResp r) s))
  | .rtTx2, .txResp r    => some (rtTx2Step r (emit (.txResp r) s))
  | .rcRx, .rxResp r     => some (rcRxStep r (emit (.rxResp r) s))
  | .rtRx, .rxResp r     => some (rtRxStep r (emit (.rxResp r) s))
  | .smDly, .delayDone   => some (smDlyStep (emit .delayDone s))
  | .spDly, .delayDone   => some (spDlyStep (emit .delayDone s))
  | .rsDly1, .delayDone  => some (rsDly1Step (emit .delayDone s))
  | .rsDly2, .delayDone  => some (rsDly2Step (emit .delayDone s))
  | .rtDly, .delayDone   => some (rtDlyStep (emit .delayDone s))
  | _, _                 => none

/-- `answerNext` is the reaction to an answer that the core waits for. -/
theorem react_of_answerNext {s t : State} {e : InputEvent} (h : answerNext s.seq e s = some t) : react e s = .next t := by
  cases e with
  | offer w | rst b => cases hq : s.seq <;> simp [answerNext, hq] at h
  | txResp r => cases hq : s.seq <;> simp_all [answerNext, react, onTxResp]
  | rxResp r => cases hq : s.seq <;> simp_all [answerNext, react, onRxResp]
  | delayDone => cases hq : s.seq <;> simp_all [answerNext, react, onDelayDone]

/-- The step on the answer that the core waits for. -/
theorem step_answer {s t : State} {q : Machine.Seq} {e : InputEvent} {rest : List InputEvent} (hs : s.seq = q)
    (hi : s.inputs = e :: rest) (ht : answerNext q e { s with inputs := rest } = some t) : step s = .next t := by
  subst hs
  rw [step_of_input hi]
  exact react_of_answerNext ht

/-! ### What the steps that report a write do, by its result -/

theorem wcTxStep_eq_complete (r : TxAnswer) (s : State) : wcTxStep r s = complete (writeStatus r) .none s := by
  cases r <;> rfl

/-- With the answer `r` in the latch, START_MEASUREMENT reports it and sets MEAS if it was good (R149). -/
theorem smDlyStep_of_latch {s : State} (r : TxAnswer) (h : s.errLatch = decide (r = .fail)) :
    smDlyStep s = complete (writeStatus r) .none (setMeas (if r = .ok then true else s.meas) s) := by
  cases r
  case ok => exact if_neg (by simp [h])
  case fail => exact if_pos h

/-- The same for STOP_MEASUREMENT, which clears MEAS (R151). -/
theorem spDlyStep_of_latch {s : State} (r : TxAnswer) (h : s.errLatch = decide (r = .fail)) :
    spDlyStep s = complete (writeStatus r) .none (setMeas (if r = .ok then false else s.meas) s) := by
  cases r
  case ok => exact if_neg (by simp [h])
  case fail => exact if_pos h

theorem rtDlyStep_of_failed {s : State} (h : s.errLatch = true) : rtDlyStep s = complete .transportError .start s := if_pos h

theorem rtDlyStep_of_good {s : State} (h : s.errLatch = false) :
    rtDlyStep s = goto .rtTx2 (send s.params.cmdFetchData (setMeas true s)) :=
  if_neg (by simp [h])

/-! ### What the verify steps of the two reads do, by the frame -/

/-- The MEAS rule of READ_COMMAND as a write that is always made. -/
theorem clearMeasIfFetch_eq_setMeas (s : State) :
    clearMeasIfFetch s = setMeas (if s.cmdReg = s.params.cmdFetchData then false else s.meas) s := by
  unfold clearMeasIfFetch
  split <;> rfl

/-- READ_COMMAND with a bad frame (R146). -/
theorem rcRxStep_mismatch (f : Frame) (h : crc8 f.b0 f.b1 ≠ f.b2) (s : State) :
    rcRxStep (.ok f) s = complete .checksumMismatch .none (takeFrame f s) := by
  rw [rcRxStep, verifyStep_mismatch f h]

/-- READ_COMMAND with a good frame (R146). -/
theorem rcRxStep_match (f : Frame) (h : crc8 f.b0 f.b1 = f.b2) (s : State) :
    rcRxStep (.ok f) s = complete .ok .none
      (setMeas (if s.cmdReg = s.params.cmdFetchData then false else s.meas)
        (writeData (decodeData f.b0 f.b1) (takeFrame f s))) := by
  rw [rcRxStep, verifyStep_match f h, clearMeasIfFetch_eq_setMeas]
  rfl

/-- READ_TEMPERATURE with a good frame (R158). -/
theorem rtRxStep_match (f : Frame) (h : crc8 f.b0 f.b1 = f.b2) (s : State) :
    rtRxStep (.ok f) s = complete .ok .none
      (setMeas false (writeTemp (scale (decodeData f.b0 f.b1)) (writeData (decodeData f.b0 f.b1) (takeFrame f s)))) := by
  rw [rtRxStep, verifyStep_match f h]

/-- READ_TEMPERATURE with a bad frame (R158). -/
theorem rtRxStep_mismatch (f : Frame) (h : crc8 f.b0 f.b1 ≠ f.b2) (s : State) :
    rtRxStep (.ok f) s = complete .checksumMismatch .fetch (takeFrame f s) := by
  rw [rtRxStep, verifyStep_mismatch f h]

/-! ### A next state written out -/

/-- States that agree in every field but the trace, and in the trace, are equal. The next states of the rules are written with their
new events in one list, which only `List.append_assoc` makes equal to what the core appends one by one; the rest is `rfl`. -/
theorem eq_of_rest_of_trace {t u : State} (hrest : { t with trace := u.trace } = u) (htrace : t.trace = u.trace) : t = u := by
  rw [← hrest, ← htrace]

/-- The same for the step on an awaited answer. -/
theorem step_answer_eq {s t u : State} {q : Machine.Seq} {e : InputEvent} {rest : List InputEvent} (hs : s.seq = q)
    (hi : s.inputs = e :: rest) (ht : answerNext q e { s with inputs := rest } = some t)
    (hrest : { t with trace := u.trace } = u) (htrace : t.trace = u.trace) : step s = .next u :=
  eq_of_rest_of_trace hrest htrace ▸ step_answer hs hi ht

end Sys2Proof.Machine

namespace Sys2Proof

open Sys2Proof.Machine

/-! ### The encodings (R93) -/

theorem decode_writeCommand (a : Arg) : decode (0x0#4 ++ a) = .writeCommand (argHalf a) := decode_append 0x0#4 a

theorem decode_readCommand (a : Arg) : decode (0x1#4 ++ a) = .readCommand (argHalf a) := decode_append 0x1#4 a

theorem decode_startMeasurement (a : Arg) : decode (0x2#4 ++ a) = .startMeasurement (argHalf a) := decode_append 0x2#4 a

theorem decode_stopMeasurement (a : Arg) : decode (0x3#4 ++ a) = .stopMeasurement := decode_append 0x3#4 a

theorem decode_resetDevice (a : Arg) : decode (0x4#4 ++ a) = .resetDevice := decode_append 0x4#4 a

theorem decode_readTemperature (a : Arg) : decode (0x5#4 ++ a) = .readTemperature := decode_append 0x5#4 a

/-! ### The statements about single steps -/

/-- Settles O13: OP by the opcode map, the effect by `acceptNext`. -/
theorem writeCommandSends : Obligations.WriteCommandSends :=
  ⟨decode_writeCommand, fun cmd _ hs => exec_of_idle (.writeCommand cmd) hs⟩

/-- Settles O15, as O13. -/
theorem readCommandSends : Obligations.ReadCommandSends :=
  ⟨decode_readCommand, fun cmd _ hs => exec_of_idle (.readCommand cmd) hs⟩

/-- Settles O16: the two answers in RC_TX. -/
theorem readCommandShortCircuits : Obligations.ReadCommandShortCircuits := fun _ _ hs =>
  ⟨fun hi => step_answer_eq hs hi rfl rfl (List.append_assoc ..),
    fun hi => step_answer_eq hs hi rfl rfl (List.append_assoc ..)⟩

/-- Settles O18: the accepting step by `acceptNext`, and SM_TX, which does the same with either answer. -/
theorem startMeasurementWrites : Obligations.StartMeasurementWrites :=
  ⟨decode_startMeasurement, fun cmd _ hs => exec_of_idle (.startMeasurement cmd) hs, fun _ _ _ hs hi =>
    step_answer_eq hs hi rfl rfl (List.append_assoc ..)⟩

/-- Settles O20, as O18, in SP_TX. -/
theorem stopMeasurementWrites : Obligations.StopMeasurementWrites :=
  ⟨decode_stopMeasurement, fun _ hs => exec_of_idle .stopMeasurement hs, fun _ _ _ hs hi =>
    step_answer_eq hs hi rfl rfl (List.append_assoc ..)⟩

/-- Settles O22: OP by the opcode map, the effect by `acceptNext`. -/
theorem resetDeviceDrivesLow : Obligations.ResetDeviceDrivesLow := by
  refine ⟨decode_resetDevice, fun s hs => (exec_of_idle .resetDevice hs).trans (congrArg _ ?_)⟩
  exact eq_of_rest_of_trace rfl (List.append_assoc ..)

/-- Settles O24, as O13. -/
theorem readTemperatureSendsStart : Obligations.ReadTemperatureSendsStart :=
  ⟨decode_readTemperature, fun _ hs => exec_of_idle .readTemperature hs⟩

/-- Settles O25: RT_TX1 does the same with either answer. -/
theorem readTemperatureSettles : Obligations.ReadTemperatureSettles := fun _ _ _ hs hi =>
  step_answer_eq hs hi rfl rfl (List.append_assoc ..)

/-- Settles O26: RT_DLY by the latch. -/
theorem readTemperatureEndsStartStage : Obligations.ReadTemperatureEndsStartStage := fun _ _ hs hi =>
  ⟨fun hlatch => step_answer_eq hs hi (congrArg some (rtDlyStep_of_failed hlatch)) rfl (List.append_assoc ..),
    fun hlatch => step_answer_eq hs hi (congrArg some (rtDlyStep_of_good hlatch)) rfl (List.append_assoc ..)⟩

/-- Settles O27: the two answers in RT_TX2. -/
theorem readTemperatureRequestsFrame : Obligations.ReadTemperatureRequestsFrame := fun _ _ hs =>
  ⟨fun hi => step_answer_eq hs hi rfl rfl (List.append_assoc ..),
    fun hi => step_answer_eq hs hi rfl rfl (List.append_assoc ..)⟩

end Sys2Proof
end

/-! ## Whole runs of the protocol operations (42_protocol.md R143 to R158) -/

section
namespace Sys2Proof.Machine

/-- Steps that follow a run that was not stopped. -/
theorem runSteps_add {m : Nat} {s t : State} (h : runSteps m s = .next t) (n : Nat) : runSteps (m + n) s = runSteps n t := by
  induction m generalizing s with
  | zero =>
    cases h
    rw [Nat.zero_add]
  | succ m ih =>
    rw [Nat.add_right_comm, runSteps]
    rw [runSteps] at h
    cases hstep : step s <;> simp only [hstep, reduceCtorEq] at h
    exact ih h

/-- `n` steps lead from `s` to `t` and trace the events `new`. -/
structure RunsTo (n : Nat) (s t : State) (new : List Event) : Prop where
  run : runSteps n s = .next t
  grew : traceGrew s t new

/-- A run of no step. -/
theorem RunsTo.nil (s : State) : RunsTo 0 s s [] := ⟨rfl, (List.append_nil _).symm⟩

/-- A step before a run. -/
theorem RunsTo.cons {n : Nat} {s t u : State} {a b : List Event} (hstep : step s = .next t) (hgrew : traceGrew s t a)
    (hrun : RunsTo n t u b) : RunsTo (n + 1) s u (a ++ b) where
  run := by rw [runSteps, hstep]; exact hrun.run
  grew := by rw [traceGrew, hrun.grew, hgrew, List.append_assoc]

/-- A run of one step. -/
theorem RunsTo.single {s t : State} {a : List Event} (hstep : step s = .next t) (hgrew : traceGrew s t a) : RunsTo 1 s t a :=
  List.append_nil a ▸ RunsTo.cons hstep hgrew (.nil t)

/-- A run before a run. -/
theorem RunsTo.trans {m n : Nat} {s t u : State} {a b : List Event} (hst : RunsTo m s t a) (htu : RunsTo n t u b) :
    RunsTo (m + n) s u (a ++ b) where
  run := (runSteps_add hst.run n).trans htu.run
  grew := by rw [traceGrew, htu.grew, hst.grew, List.append_assoc]

/-- The step on a request word that is put together from OP and ARG, in IDLE. -/
theorem step_accept {s : State} {c : BitVec 4} {a : Arg} {i : Instr} {rest : List InputEvent} (hs : s.seq = .idle)
    (hi : s.inputs = .offer (c ++ a) :: rest) (hd : decode (c ++ a) = i) :
    step s = .next (acceptNext i (emit (.req c a) { s with inputs := rest })) := by
  rw [step_offer_of_idle hi hs, hd, opField_append, argField_append]
  exact exec_of_idle i hs

/-- A state written as a change of one that is in `q` already. A whole operation begins and ends in IDLE. -/
theorem eq_of_eq_goto {t u : State} {q : Machine.Seq} (hu : u.seq = q) (h : t = goto q u) : t = u := by
  subst hu
  exact h

/-- READ_TEMPERATURE after a good start stage: MEAS is set and the fetch command is in flight (R156). -/
def fetchSent (a : Arg) (rest : List InputEvent) (s : State) : State :=
  { s with
    inputs := rest, seq := .rtTx2, errLatch := false, meas := true
    cmdReg := s.params.cmdFetchData, txBuf := encodeCmd s.params.cmdFetchData
    trace := s.trace ++
      [.req 0x5#4 a, .transmit (busAddr s) (encodeCmd s.params.cmdStartDefault), .txResp .ok, .delay 20, .delayDone,
        .transmit (busAddr s) (encodeCmd s.params.cmdFetchData)] }

/-- The three steps of a good start stage: the accepting step, RT_TX1 and RT_DLY. -/
theorem runsTo_fetchSent {s : State} {a : Arg} {rest : List InputEvent} (hs : s.seq = .idle)
    (hi : s.inputs = .offer (0x5#4 ++ a) :: .txResp .ok :: .delayDone :: rest) :
    RunsTo 3 s (fetchSent a rest s)
      [.req 0x5#4 a, .transmit (busAddr s) (encodeCmd s.params.cmdStartDefault), .txResp .ok, .delay 20, .delayDone,
        .transmit (busAddr s) (encodeCmd s.params.cmdFetchData)] := by
  have hrun := RunsTo.cons (step_accept hs hi (decode_readTemperature a)) (List.append_assoc ..)
    (.cons (step_answer rfl rfl rfl) (List.append_assoc ..)
    (.single (step_answer rfl rfl (congrArg some (rtDlyStep_of_good rfl))) (List.append_assoc ..)))
  exact ⟨hrun.run.trans (congrArg _ (eq_of_rest_of_trace rfl hrun.grew)), rfl⟩

end Sys2Proof.Machine

namespace Sys2Proof

open Sys2Proof.Machine

/-- Settles O14: the accepting step, and WC_TX with either answer. -/
theorem writeCommandCompletes : Obligations.WriteCommandCompletes := by
  refine ⟨fun s a r rest hs hi => ?_, fun s rest hs => ⟨fun hi => ?_, fun hi => ?_⟩⟩
  · have hrun := RunsTo.cons (step_accept hs hi (decode_writeCommand a)) (List.append_assoc ..)
      (.single (step_answer rfl rfl (congrArg some (wcTxStep_eq_complete r _))) (List.append_assoc ..))
    exact ⟨_, _, hrun.run, eq_of_eq_goto hs rfl, hrun.grew⟩
  · exact step_answer_eq hs hi rfl rfl (List.append_assoc ..)
  · exact step_answer_eq hs hi rfl rfl (List.append_assoc ..)

/-- Settles O19: the accepting step, SM_TX, and SM_DLY with the answer that was latched. -/
theorem startMeasurementCompletes : Obligations.StartMeasurementCompletes := by
  refine ⟨fun s a r rest hs hi => ?_, fun s rest hs hi => ⟨fun hlatch => ?_, fun hlatch => ?_⟩⟩
  · have hrun := RunsTo.cons (step_accept hs hi (decode_startMeasurement a)) (List.append_assoc ..)
      (.cons (step_answer rfl rfl rfl) (List.append_assoc ..)
      (.single (step_answer rfl rfl (congrArg some (smDlyStep_of_latch r rfl))) (List.append_assoc ..)))
    exact ⟨_, _, hrun.run, eq_of_eq_goto hs rfl, hrun.grew⟩
  · exact step_answer_eq hs hi (congrArg some (smDlyStep_of_latch .fail hlatch)) rfl (List.append_assoc ..)
  · exact step_answer_eq hs hi (congrArg some (smDlyStep_of_latch .ok hlatch)) rfl (List.append_assoc ..)

/-- Settles O21: as O19, with SP_TX and SP_DLY. -/
theorem stopMeasurementCompletes : Obligations.StopMeasurementCompletes := by
  refine ⟨fun s a r rest hs hi => ?_, fun s rest hs hi => ⟨fun hlatch => ?_, fun hlatch => ?_⟩⟩
  · have hrun := RunsTo.cons (step_accept hs hi (decode_stopMeasurement a)) (List.append_assoc ..)
      (.cons (step_answer rfl rfl rfl) (List.append_assoc ..)
      (.single (step_answer rfl rfl (congrArg some (spDlyStep_of_latch r rfl))) (List.append_assoc ..)))
    exact ⟨_, _, hrun.run, eq_of_eq_goto hs rfl, hrun.grew⟩
  · exact step_answer_eq hs hi (congrArg some (spDlyStep_of_latch .fail hlatch)) rfl (List.append_assoc ..)
  · exact step_answer_eq hs hi (congrArg some (spDlyStep_of_latch .ok hlatch)) rfl (List.append_assoc ..)

/-- Settles O23: the accepting step and the two ends of a delay. -/
theorem resetDeviceDrivesHighAndCompletes : Obligations.ResetDeviceDrivesHighAndCompletes := by
  refine ⟨fun s a rest hs hi => ?_, fun s rest hs hi => ?_, fun s rest hs hi => ?_⟩
  · have hrun := RunsTo.cons (a := [.req 0x4#4 a, .setPin s.params.resetPin .low, .delay 1])
        (step_accept hs hi (decode_resetDevice a)) (by simp [traceGrew, acceptNext, tRstLow])
        (.cons (a := [.delayDone, .setPin s.params.resetPin .high, .delay 100])
          (step_answer rfl rfl rfl) (by simp [traceGrew, acceptNext, rsDly1Step, tRstRecover])
        (.single (step_answer rfl rfl rfl) (List.append_assoc ..)))
    exact ⟨_, _, hrun.run, eq_of_eq_goto hs rfl, hrun.grew⟩
  · exact step_answer_eq hs hi rfl rfl (by simp [rsDly1Step, tRstRecover])
  · exact step_answer_eq hs hi rfl rfl (List.append_assoc ..)

/-- Settles O17: the accepting step, RC_TX, and RC_RX, in which the frame is missing, bad or good. -/
theorem readCommandVerifies : Obligations.ReadCommandVerifies := by
  refine ⟨fun s a f rest hs => ⟨fun hi => ?_, fun hi => ?_, fun hi hbad => ?_, fun hi hgood => ?_⟩,
    fun s rest hs => ⟨fun hi => ?_, fun f hi hbad => ?_, fun f hi hgood => ?_⟩⟩
  · have hrun := RunsTo.cons (step_accept hs hi (decode_readCommand a)) (List.append_assoc ..)
      (.single (step_answer rfl rfl rfl) (List.append_assoc ..))
    exact ⟨_, hrun.run, rfl, rfl, rfl, rfl, rfl, rfl, hrun.grew⟩
  · have hrun := RunsTo.cons (step_accept hs hi (decode_readCommand a)) (List.append_assoc ..)
      (.cons (step_answer rfl rfl rfl) (List.append_assoc ..)
      (.single (step_answer rfl rfl rfl) (List.append_assoc ..)))
    exact ⟨_, hrun.run, rfl, rfl, rfl, rfl, rfl, hrun.grew⟩
  · have hrun := RunsTo.cons (step_accept hs hi (decode_readCommand a)) (List.append_assoc ..)
      (.cons (step_answer rfl rfl rfl) (List.append_assoc ..)
      (.single (step_answer rfl rfl (congrArg some (rcRxStep_mismatch f hbad _))) (List.append_assoc ..)))
    exact ⟨_, hrun.run, rfl, rfl, rfl, rfl, rfl, rfl, hrun.grew⟩
  · have hrun := RunsTo.cons (step_accept hs hi (decode_readCommand a)) (List.append_assoc ..)
      (.cons (step_answer rfl rfl rfl) (List.append_assoc ..)
      (.single (step_answer rfl rfl (congrArg some (rcRxStep_match f hgood _))) (List.append_assoc ..)))
    exact ⟨_, hrun.run, rfl, rfl, rfl, rfl, hgood, rfl, hrun.grew⟩
  · exact ⟨_, _, step_answer_eq hs hi rfl rfl (List.append_assoc ..)⟩
  · exact step_answer_eq hs hi (congrArg some (rcRxStep_mismatch f hbad _)) rfl (List.append_assoc ..)
  · exact step_answer_eq hs hi (congrArg some (rcRxStep_match f hgood _)) rfl (List.append_assoc ..)

/-- Settles O28: a failed start stage ends in RT_DLY; after a good one RT_TX2 is passed or not, and in RT_RX the frame is missing, bad
or good. -/
theorem readTemperatureVerifiesAndConverts : Obligations.ReadTemperatureVerifiesAndConverts := by
  refine ⟨fun s a f rest hs => ⟨fun hi => ?_, fun hi => ?_, fun hi => ?_, fun hi hbad => ?_, fun hi hgood => ?_⟩,
    fun s rest hs => ⟨fun hi => ?_, fun f hi hbad => ?_, fun f hi hgood => ?_⟩⟩
  · have hrun := RunsTo.cons (step_accept hs hi (decode_readTemperature a)) (List.append_assoc ..)
      (.cons (step_answer rfl rfl rfl) (List.append_assoc ..)
      (.single (step_answer rfl rfl (congrArg some (rtDlyStep_of_failed rfl))) (List.append_assoc ..)))
    exact ⟨_, hrun.run, rfl, rfl, rfl, rfl, rfl, hrun.grew⟩
  · have hrun := (runsTo_fetchSent hs hi).trans (.single (step_answer rfl rfl rfl) (List.append_assoc ..))
    exact ⟨_, hrun.run, rfl, rfl, rfl, rfl, rfl, hrun.grew⟩
  · have hrun := (runsTo_fetchSent hs hi).trans (.cons (step_answer rfl rfl rfl) (List.append_assoc ..)
      (.single (step_answer rfl rfl rfl) (List.append_assoc ..)))
    exact ⟨_, hrun.run, rfl, rfl, rfl, rfl, rfl, hrun.grew⟩
  · have hrun := (runsTo_fetchSent hs hi).trans (.cons (step_answer rfl rfl rfl) (List.append_assoc ..)
      (.single (step_answer rfl rfl (congrArg some (rtRxStep_mismatch f hbad _))) (List.append_assoc ..)))
    exact ⟨_, hrun.run, rfl, rfl, rfl, rfl, rfl, rfl, hrun.grew⟩
  · have hrun := (runsTo_fetchSent hs hi).trans (.cons (step_answer rfl rfl rfl) (List.append_assoc ..)
      (.single (step_answer rfl rfl (congrArg some (rtRxStep_match f hgood _))) (List.append_assoc ..)))
    exact ⟨_, hrun.run, rfl, rfl, rfl, rfl, rfl, rfl, hrun.grew⟩
  · exact ⟨_, _, step_answer_eq hs hi rfl rfl (List.append_assoc ..)⟩
  · exact step_answer_eq hs hi (congrArg some (rtRxStep_mismatch f hbad _)) rfl (List.append_assoc ..)
  · exact step_answer_eq hs hi (congrArg some (rtRxStep_match f hgood _)) rfl (List.append_assoc ..)

end Sys2Proof
end

/-! ## MEAS is never read (10_state.md R34, 42_protocol.md R159) -/

section
namespace Sys2Proof.Machine

/-- What `k` does to the other registers does not depend on MEAS. -/
def MeasUnread (k : State → State) : Prop :=
  ∀ (s : State) (b : Bool), setMeas (k (setMeas b s)).meas (k s) = k (setMeas b s)

/-! ### The step functions -/

/-- The verify step reads MEAS only if its act on a match does. -/
theorem measUnread_verifyStep {k : State → State} (hk : MeasUnread k) (f : Frame) (sg : Stage) :
    MeasUnread (verifyStep f sg k) := by
  intro s b
  by_cases hc : crc8 f.b0 f.b1 = f.b2
  · rw [verifyStep_match f hc, verifyStep_match f hc]
    exact congrArg (complete .ok .none) (hk (writeData (decodeData f.b0 f.b1) (takeFrame f s)) b)
  · rw [verifyStep_mismatch f hc, verifyStep_mismatch f hc]
    rfl

theorem measUnread_clearMeasIfFetch : MeasUnread clearMeasIfFetch := by
  intro s b
  rw [clearMeasIfFetch_eq_setMeas, clearMeasIfFetch_eq_setMeas]
  rfl

theorem measUnread_acceptNext (i : Instr) : MeasUnread (acceptNext i) := by
  cases i
  case parseFrame b0 b1 b2 => exact measUnread_verifyStep (k := id) (fun _ _ => rfl) ⟨b0, b1, b2⟩ .none
  all_goals exact fun _ _ => rfl

theorem measUnread_rcRxStep (r : RxAnswer) : MeasUnread (rcRxStep r) := by
  cases r
  case ok f => exact measUnread_verifyStep measUnread_clearMeasIfFetch f _
  case fail => exact fun _ _ => rfl

theorem measUnread_rtRxStep (r : RxAnswer) : MeasUnread (rtRxStep r) := by
  cases r
  case ok f =>
    refine measUnread_verifyStep ?_ f _
    exact fun _ _ => rfl
  case fail => exact fun _ _ => rfl

/-- A branch on ERR_LATCH reads MEAS only if one of its sides does. -/
theorem measUnread_ite_errLatch {k l : State → State} (hk : MeasUnread k) (hl : MeasUnread l) :
    MeasUnread (fun s => if s.errLatch then k s else l s) := by
  intro s b
  cases h : s.errLatch
  · simpa only [setMeas_errLatch, h, Bool.false_eq_true, if_false] using hl s b
  · simpa only [setMeas_errLatch, h, if_true] using hk s b

theorem measUnread_smDlyStep : MeasUnread smDlyStep := measUnread_ite_errLatch (fun _ _ => rfl) (fun _ _ => rfl)

theorem measUnread_spDlyStep : MeasUnread spDlyStep := measUnread_ite_errLatch (fun _ _ => rfl) (fun _ _ => rfl)

theorem measUnread_rtDlyStep : MeasUnread rtDlyStep := measUnread_ite_errLatch (fun _ _ => rfl) (fun _ _ => rfl)

/-! ### The input events, faults among their answers -/

theorem onOffer_agreeUpToMeas (w : Req) (s : State) (b : Bool) :
    agreeUpToMeas (onOffer w s) (onOffer w (setMeas b s)) := by
  by_cases hs : s.seq = .idle
  · rw [onOffer_of_idle hs, onOffer_of_idle ((setMeas_seq b s).trans hs)]
    exact measUnread_acceptNext (decode w) (emit (.req (opField w) (argField w)) s) b
  · rw [onOffer_of_busy hs, onOffer_of_busy ((setMeas_seq b s).trans_ne hs)]
    rfl

theorem onTxResp_agreeUpToMeas (r : TxAnswer) (s : State) (b : Bool) :
    agreeUpToMeas (onTxResp r s) (onTxResp r (setMeas b s)) := by
  cases hq : s.seq <;> simp only [onTxResp, setMeas_seq, hq]
  case wcTx | rcTx | rtTx2 => cases r <;> rfl
  all_goals rfl

theorem onRxResp_agreeUpToMeas (r : RxAnswer) (s : State) (b : Bool) :
    agreeUpToMeas (onRxResp r s) (onRxResp r (setMeas b s)) := by
  cases hq : s.seq <;> simp only [onRxResp, setMeas_seq, hq]
  case rcRx => exact measUnread_rcRxStep r (emit (.rxResp r) s) b
  case rtRx => exact measUnread_rtRxStep r (emit (.rxResp r) s) b
  all_goals rfl

theorem onDelayDone_agreeUpToMeas (s : State) (b : Bool) :
    agreeUpToMeas (onDelayDone s) (onDelayDone (setMeas b s)) := by
  cases hq : s.seq <;> simp only [onDelayDone, setMeas_seq, hq]
  case smDly => exact measUnread_smDlyStep (emit .delayDone s) b
  case spDly => exact measUnread_spDlyStep (emit .delayDone s) b
  case rtDly => exact measUnread_rtDlyStep (emit .delayDone s) b
  all_goals rfl

/-- A reaction to any event is the same but for MEAS; `rst` draws the same free values, the draw counter being the same. -/
theorem react_agreeUpToMeas (e : InputEvent) (s : State) (b : Bool) :
    agreeUpToMeas (react e s) (react e (setMeas b s)) := by
  cases e with
  | offer w => exact onOffer_agreeUpToMeas w s b
  | txResp r => exact onTxResp_agreeUpToMeas r s b
  | rxResp r => exact onRxResp_agreeUpToMeas r s b
  | delayDone => exact onDelayDone_agreeUpToMeas s b
  | rst strap => rfl

end Sys2Proof.Machine

namespace Sys2Proof

open Sys2Proof.Machine

/-- Settles O45: waiting changes nothing, and no reaction reads MEAS. -/
theorem measNeverRead : Obligations.MeasNeverRead := by
  intro s b
  change agreeUpToMeas (step s) (step (setMeas b s))
  cases hi : s.inputs with
  | nil =>
    rw [step_of_no_input hi, step_of_no_input ((setMeas_inputs b s).trans hi)]
    rfl
  | cons e rest =>
    rw [step_of_input hi, step_of_input ((setMeas_inputs b s).trans hi)]
    exact react_agreeUpToMeas e { s with inputs := rest } b

end Sys2Proof
end

/-! ## The temperature converter (43_converter.md R170 to R173) -/

section
namespace Sys2Proof.Machine

/-! ### The fixed-point value as an integer -/

/-- The exact quotient of R170, rounded down, in the fixed-point value. -/
theorem scale_toInt_eq_floor (raw : Half) :
    (scale raw).toInt = ⌊(175 * raw.toNat * 2 ^ 16 / 65535 : ℚ)⌋ - 45 * 2 ^ 16 := by
  have hfloor : ⌊(175 * raw.toNat * 2 ^ 16 / 65535 : ℚ)⌋ = ((11468800 * raw.toNat / 65535 : ℕ) : ℤ) := by
    rw [Int.natCast_ediv, ← Rat.floor_natCast_div_natCast]
    congr 1
    push_cast
    ring
  rw [scale_toInt, scaleInt_eq, hfloor]
  norm_num

/-- As `175 * 65536 = 175 * 65535 + 175`, a step of `raw` adds 175 units, and the rest of the division carries one more now and
then. -/
theorem scale_toInt_eq_carry (raw : Half) :
    (scale raw).toInt = 175 * raw.toNat + (175 * raw.toNat / 65535 : ℕ) - 2949120 := by
  rw [scale_toInt, scaleInt_eq]
  omega

theorem scale_toInt_range (raw : Half) : -2949120 ≤ (scale raw).toInt ∧ (scale raw).toInt ≤ 8519680 := by
  rw [scale_toInt]
  exact scaleInt_range raw

theorem scale_toInt_lt {a b : Half} (h : a.toNat < b.toNat) : (scale a).toInt < (scale b).toInt := by
  rw [scale_toInt_eq_carry, scale_toInt_eq_carry]
  omega

/-- Successive results differ by 175, or by 176 at a carry. -/
theorem scale_toInt_succ_sub {raw : Half} (h : raw ≠ 0xFFFF#16) :
    (scale (raw + 1#16)).toInt - (scale raw).toInt = 175 ∨ (scale (raw + 1#16)).toInt - (scale raw).toInt = 176 := by
  have hsucc : (raw + 1#16).toNat = raw.toNat + 1 := by bv_omega
  rw [scale_toInt_eq_carry, scale_toInt_eq_carry, hsucc]
  omega

theorem scale_toInt_neg_iff (raw : Half) : (scale raw).toInt < 0 ↔ raw.toNat ≤ 16851 := by
  rw [scale_toInt_eq_carry]
  omega

theorem scale_toInt_ne_zero (raw : Half) : (scale raw).toInt ≠ 0 := by
  rw [scale_toInt_eq_carry]
  omega

/-- Where the division leaves no rest, `k` of the 65535 parts make `k - 45` whole degrees. -/
theorem dvd_scale_toInt {raw : Half} (h : 65535 ∣ 175 * raw.toNat) : (65536 : ℤ) ∣ (scale raw).toInt := by
  obtain ⟨k, hk⟩ := h
  have hdeg : (scale raw).toInt = 65536 * (k - 45) := by
    rw [scale_toInt_eq_carry]
    omega
  exact ⟨_, hdeg⟩

/-! ### The exact map, and the error of the fixed-point value -/

theorem exactTemp_eq (raw : Half) : exactTemp raw = -45 + 175 * (raw.toNat : ℚ) / 65535 := by
  simp [exactTemp, tempMin, tempSpan, rawMax]

theorem exactTemp_lt {a b : Half} (h : a.toNat < b.toNat) : exactTemp a < exactTemp b := by
  rw [exactTemp_eq, exactTemp_eq]
  gcongr

theorem exactTemp_range (raw : Half) : -45 ≤ exactTemp raw ∧ exactTemp raw ≤ 130 := by
  have hmin : (0 : ℚ) ≤ raw.toNat := Nat.cast_nonneg _
  have hmax : (raw.toNat : ℚ) ≤ 65535 := mod_cast Nat.le_of_lt_succ raw.isLt
  rw [exactTemp_eq]
  constructor <;> linarith

/-- The fixed-point value falls short of the exact one by what the floor cuts off. -/
theorem exactTemp_sub_scale (raw : Half) :
    exactTemp raw - ((scale raw).toInt : ℚ) / 65536 = Int.fract (175 * raw.toNat * 2 ^ 16 / 65535 : ℚ) / 2 ^ 16 := by
  rw [exactTemp_eq, scale_toInt_eq_floor, Int.fract]
  push_cast
  ring

theorem exactTemp_sub_scale_nonneg (raw : Half) : 0 ≤ exactTemp raw - ((scale raw).toInt : ℚ) / 65536 := by
  rw [exactTemp_sub_scale]
  exact div_nonneg (Int.fract_nonneg _) (by norm_num)

theorem exactTemp_sub_scale_lt (raw : Half) : exactTemp raw - ((scale raw).toInt : ℚ) / 65536 < 1 / 2 ^ 16 := by
  rw [exactTemp_sub_scale]
  exact div_lt_div_of_pos_right (Int.fract_lt_one _) (by norm_num)

/-! ### The widths of the intermediate values -/

theorem scale_numerator_le (raw : Half) : 175 * raw.toNat * 2 ^ 16 ≤ 751607808000 := by
  have h := raw.isLt
  omega

end Sys2Proof.Machine

namespace Sys2Proof

open Sys2Proof.Machine

/-- Settles O56: the model's natural division is the floor of the rational quotient, and the range is that of `scaleInt`. -/
theorem scaleIsFloorOfExactQuotient : Obligations.ScaleIsFloorOfExactQuotient := fun raw =>
  ⟨scale_toInt_eq_floor raw, scale_toInt_range raw⟩

/-- Settles O57: the end points from the formula, then its growth and its range. -/
theorem exactTemperatureMap : Obligations.ExactTemperatureMap := by
  refine ⟨?_, ?_, fun _ _ => exactTemp_lt, fun raw => ⟨exactTemp_eq raw, exactTemp_range raw⟩⟩
  · norm_num [exactTemp_eq]
  · norm_num [exactTemp_eq]

/-- Settles O58: the laws one by one; the four fixed results are evaluated. -/
theorem scaleLaws : Obligations.ScaleLaws := by
  refine ⟨by decide, by decide, fun raw => ⟨exactTemp_sub_scale_nonneg raw, exactTemp_sub_scale_lt raw⟩,
    fun _ _ => scale_toInt_lt, fun _ => scale_toInt_succ_sub, fun raw => ⟨scale_toInt_neg_iff raw, scale_toInt_ne_zero raw⟩,
    by decide, fun _ => dvd_scale_toInt, by decide, fun raw => ?_⟩
  have h := scale_numerator_le raw
  exact ⟨h, by omega, by omega⟩

/-- Settles O11: OP by the opcode map, the corner values by evaluation, the effect by `acceptNext`. -/
theorem convertWritesTempOut : Obligations.ConvertWritesTempOut := by
  refine ⟨decode_append 0xA#4, by decide, by decide, by decide, by decide, fun raw s hs => ?_⟩
  rw [exec_of_idle _ hs]
  rfl

end Sys2Proof
end

/-! ## The event `rst` and the state after reset (70_reset_and_hazards.md R210; 10_state.md R21) -/

section
namespace Sys2Proof.Machine

/-- `rst` has a step from every state: it waits for nothing. -/
theorem step_rst {s : State} {b : BitVec 1} {rest : List InputEvent} (hi : s.inputs = .rst b :: rest) :
    step s = .next (applyRst b { s with inputs := rest }) :=
  step_of_input hi

theorem inv_reset : Inv State.reset := ⟨.inl rfl, trivial, trivial⟩

theorem receivesFollowGoodWrites_nil : receivesFollowGoodWrites [] :=
  fun _ _ _ _ h => absurd h.symm (by simp)

end Sys2Proof.Machine

namespace Sys2Proof

open Sys2Proof.Machine

/-- Settles O29: the fields that `applyRst` writes, each data register with its free draw. -/
theorem rstResetsFromEveryState : Obligations.RstResetsFromEveryState :=
  fun _ _ _ hi => ⟨_, _, _, _, _, _, _, step_rst hi⟩

/-- Settles O37: in IDLE with an empty trace nothing is in flight and nothing was received. -/
theorem invHoldsAtReset : Obligations.InvHoldsAtReset := ⟨inv_reset, receivesFollowGoodWrites_nil⟩

end Sys2Proof
end

/-! ## The delays of an operation (70_reset_and_hazards.md R220, R223)

The delays traced and those that the operation in progress has still to make add up to the same number all through the operation:
every path from a wait state makes the same delays. -/

section
namespace Sys2Proof.Machine

@[simp] theorem delayTotal_append (a b : List Event) : delayTotal (a ++ b) = delayTotal a + delayTotal b := by
  induction a with
  | nil => simp [delayTotal]
  | cons e a ih => cases e <;> simp [delayTotal, ih, Nat.add_assoc]

/-- The delays still to be made by the operation in progress, by SEQ. -/
def delaysLeft : Machine.Seq → Nat
  | .smTx | .rtTx1 => 20
  | .spTx => 1
  | .rsDly1 => 100
  | .idle | .wcTx | .rcTx | .rcRx | .smDly | .spDly | .rsDly2 | .rtDly | .rtTx2 | .rtRx => 0

/-- The delays of a whole operation (R220, R223). -/
def opDelays (o : Op) : Nat :=
  if o = .startMeasurement ∨ o = .readTemperature then 20
  else if o = .stopMeasurement then 1
  else if o = .resetDevice then 101
  else 0

/-- The delays traced and those still to be made. -/
def delayBudget (s : State) : Nat := delayTotal s.trace + delaysLeft s.seq

theorem delayBudget_of_idle {s : State} (hs : s.seq = .idle) : delayBudget s = delayTotal s.trace := by
  simp [delayBudget, hs, delaysLeft]

/-- The verify step delays nothing and ends its operation. -/
theorem delayBudget_verifyStep {k : State → State} (hk : ∀ u, (k u).trace = u.trace) (f : Frame) (sg : Stage) (s : State) :
    delayBudget (verifyStep f sg k s) = delayTotal s.trace := by
  rw [delayBudget_of_idle (verifyStep_seq ..)]
  obtain ⟨-, hv⟩ | ⟨-, hv⟩ := verifyStep_cases f sg k s <;> simp [hv, hk, delayTotal]

/-! ### Accepting a request -/

/-- An operation begins with all its delays before it, RESET_DEVICE with the first of its two just traced. -/
theorem delayBudget_acceptNext (i : Instr) (op : BitVec 4) (arg : Arg) (s : State) :
    delayBudget (acceptNext i (emit (.req op arg) s)) = delayTotal s.trace + opDelays i.op := by
  cases i
  case parseFrame b0 b1 b2 =>
    refine (delayBudget_verifyStep (fun _ => rfl) _ _ _).trans ?_
    simp [delayTotal, opDelays, Instr.op]
  case resetDevice => simp [acceptNext, delayBudget, delayTotal, delaysLeft, opDelays, Instr.op, tRstLow, Nat.add_assoc]
  all_goals simp [acceptNext, delayBudget, delayTotal, delaysLeft, opDelays, Instr.op]

theorem delayBudget_of_accepted {s t : State} {w : Req} {rest : List InputEvent} (hs : s.seq = .idle)
    (hi : s.inputs = .offer w :: rest) (h : step s = .next t) :
    delayBudget t = delayTotal s.trace + opDelays (decode w).op := by
  cases ((step_of_input hi).trans (onOffer_of_idle hs)).symm.trans h
  exact delayBudget_acceptNext ..

/-! ### Awaited answers -/

/-- A write's answer, good or bad, starts the delay of the three operations that make one after a write (R148, R150, R155). -/
theorem onTxResp_delayBudget {r : TxAnswer} {s t : State} (h : onTxResp r s = .next t) : delayBudget t = delayBudget s := by
  obtain ⟨hq, rfl⟩ | ⟨hq, rfl⟩ | ⟨hq, rfl⟩ | ⟨hq, rfl⟩ | ⟨hq, rfl⟩ | ⟨hq, rfl⟩ := onTxResp_cases h
  case inl | inr.inl | inr.inr.inr.inr.inr =>
    cases r <;> simp [wcTxStep, rcTxStep, rtTx2Step, delayBudget, delayTotal, delaysLeft, hq]
  all_goals simp [smTxStep, spTxStep, rtTx1Step, delayBudget, delayTotal, delaysLeft, tSettle, tBreak, hq]

/-- A read's answer ends its operation, which has no delay left. -/
theorem onRxResp_delayBudget {r : RxAnswer} {s t : State} (h : onRxResp r s = .next t) : delayBudget t = delayBudget s := by
  obtain ⟨hq, rfl⟩ | ⟨hq, rfl⟩ := onRxResp_cases h <;> cases r
  case inl.ok f =>
    rw [rcRxStep, delayBudget_verifyStep clearMeasIfFetch_trace]
    simp [delayBudget, delayTotal, delaysLeft, hq]
  case inr.ok f =>
    by_cases hcrc : crc8 f.b0 f.b1 = f.b2
    · simp [rtRxStep_match f hcrc, delayBudget, delayTotal, delaysLeft, hq]
    · simp [rtRxStep_mismatch f hcrc, delayBudget, delayTotal, delaysLeft, hq]
  case inl.fail | inr.fail => simp [rcRxStep, rtRxStep, delayBudget, delayTotal, delaysLeft, hq]

/-- After a delay only RESET_DEVICE has another to make, whatever was latched (R149, R151, R153, R156). -/
theorem onDelayDone_delayBudget {s t : State} (h : onDelayDone s = .next t) : delayBudget t = delayBudget s := by
  obtain ⟨hq, rfl⟩ | ⟨hq, rfl⟩ | ⟨hq, rfl⟩ | ⟨hq, rfl⟩ | ⟨hq, rfl⟩ := onDelayDone_cases h <;> cases hlatch : s.errLatch
  all_goals
    simp [smDlyStep, spDlyStep, rsDly1Step, rsDly2Step, rtDlyStep, delayBudget, delayTotal, delaysLeft, tRstRecover, hq, hlatch]

theorem react_delayBudget {s t : State} {e : InputEvent} (he : answers s.seq e = true) (h : react e s = .next t) :
    delayBudget t = delayBudget s := by
  obtain ⟨hkind, -⟩ := answers_iff.mp he
  cases e with
  | txResp r => exact onTxResp_delayBudget h
  | rxResp r => exact onRxResp_delayBudget h
  | delayDone => exact onDelayDone_delayBudget h
  | offer w | rst b => exact absurd rfl hkind

/-- So the sum is the same after any number of awaited answers. -/
theorem driveWith_delayBudget {env : Machine.Seq → InputEvent} (henv : ∀ q, q ≠ .idle → answers q (env q) = true)
    {n : Nat} {s u : State} (h : driveWith env n s = .next u) : delayBudget u = delayBudget s := by
  induction n generalizing s with
  | zero =>
    cases h
    rfl
  | succ n ih =>
    by_cases hs : s.seq = .idle
    · cases (driveWith_of_idle env _ hs).symm.trans h
      rfl
    · obtain ⟨t, ht, -⟩ := react_of_answers (henv _ hs)
      rw [driveWith_of_react n hs ht] at h
      exact (ih h).trans (react_delayBudget (henv _ hs) ht)

end Sys2Proof.Machine

namespace Sys2Proof

open Sys2Proof.Machine

/-- Settles O35: the operation ends (O34), and at its end all delays of the sum that it began with have been traced. -/
theorem operationsMakeTheirDelays : Obligations.OperationsMakeTheirDelays := by
  intro env henv s w rest hs hi
  obtain ⟨t, u, hstep, hdrive, hidle, -, new, htrace, -⟩ := operationsEndInBoundedSteps env henv s w rest hs hi
  rw [List.append_assoc] at htrace
  refine ⟨t, u, new ++ [Event.done u.status u.stage], hstep, hdrive, htrace, ?_⟩
  have hsum : delayTotal s.trace + delayTotal (new ++ [Event.done u.status u.stage]) =
      delayTotal s.trace + opDelays (decode w).op :=
    calc delayTotal s.trace + delayTotal (new ++ [Event.done u.status u.stage])
      _ = delayBudget u := by rw [← delayTotal_append, ← htrace, delayBudget_of_idle hidle]
      _ = delayBudget t := driveWith_delayBudget henv hdrive
      _ = delayTotal s.trace + opDelays (decode w).op := delayBudget_of_accepted hs hi hstep
  exact Nat.add_left_cancel hsum

end Sys2Proof
end
